-- ==== Sys2Proof/Word.lean ====
section
/-! DEFINITION. The word types of the register bus (20_memory.md R60) and the block number type. -/

namespace Sys2Proof

/-- A 32-bit bus word, which is also the width of a command word (R60, R90). -/
abbrev Word := BitVec 32

/-- A 16-bit byte address on the register bus (R60, R65). -/
abbrev Addr := BitVec 16

/-- One byte of the host's texts (45_host.md R192). -/
abbrev Byte := BitVec 8

end Sys2Proof
end

