-- ==== Sys2Proof/Syntax.lean ====
section
/-! DEFINITION. The nine commands of spec/opcode_table.json (30_encoding.md R93), one constructor per row. -/

namespace Sys2Proof

/-- The X field of MODEXP (R91): 0 selects KEY_E (the encryption direction), 1 selects KEY_D. -/
inductive ExpSel where
  | keyE
  | keyD
  deriving DecidableEq, Repr

/-- A command. Operands are the unsigned naturals of R92: buffer indices and a block count. -/
inductive Instr where
  /-- R111 -/
  | nop
  /-- R112 -/
  | check
  /-- R113 -/
  | chainInit
  /-- R150 -/
  | ecbEnc (start count : Nat)
  /-- R151 -/
  | ecbDec (start count : Nat)
  /-- R171 -/
  | cbcEnc (start count : Nat)
  /-- R172 -/
  | cbcDec (start count : Nat)
  /-- R133 -/
  | modexp (x : ExpSel) (src dst : Nat)
  /-- R134 -/
  | montmul (srcA srcB dst : Nat)
  deriving DecidableEq, Repr

end Sys2Proof
end

