-- ==== Sys2Proof/WellFormed.lean ====
section
/-! DEFINITION. When a command can be written as a command word: every operand fits its 8-bit field (30_encoding.md
R91, R99: "An assembler refuses an operand that does not fit its field"). Indices are checked against NBUF only at
execution (R98), so that check is no part of this one. -/

namespace Sys2Proof

/-- The operand fits an 8-bit field of R91. -/
def fitsField (v : Nat) : Bool := decide (v < 256)

/-- Every operand of the command fits its field. -/
def Instr.wellFormed : Instr → Bool
  | .nop => true
  | .check => true
  | .chainInit => true
  | .ecbEnc start count => fitsField start && fitsField count
  | .ecbDec start count => fitsField start && fitsField count
  | .cbcEnc start count => fitsField start && fitsField count
  | .cbcDec start count => fitsField start && fitsField count
  | .modexp _ src dst => fitsField src && fitsField dst
  | .montmul srcA srcB dst => fitsField srcA && fitsField srcB && fitsField dst

end Sys2Proof
end

