-- ==== Sys2Proof/Decode.lean ====
section
/-! DEFINITION. The decoder of 30_encoding.md R94, total on every 32-bit word and rejecting by name, and after it
the encoder, written from the same field table (R91, R93, R99). -/

namespace Sys2Proof

/-- R11: `v[hi:lo]`, the field of the word from bit hi down to bit lo, as a natural. -/
def bits (v : Word) (hi lo : Nat) : Nat := v.toNat / 2 ^ lo % 2 ^ (hi - lo + 1)

/-- Why a word is ILLEGAL, in the order in which R94 checks. All of them complete with ERRCODE = ILLEGAL (R95, R96). -/
inductive DecodeError where
  /-- OP is 0x3 or 0xA to 0xF (R95). -/
  | reservedOpcode
  /-- RSV is not 0 (R96). -/
  | reservedBits
  /-- X is not 0 in a command other than MODEXP (R96). -/
  | selectNotZero
  /-- A, B or C is not 0 in NOP, CHECK or CHAIN_INIT (R96). -/
  | operandNotZero
  /-- C is not 0 in a command of two operand fields (R96). -/
  | destNotZero
  deriving DecidableEq, Repr

/-- The X field as an exponent select (R91). -/
def selectOf (x : Nat) : ExpSel := if x = 0 then .keyE else .keyD

/-- NOP, CHECK and CHAIN_INIT: every field other than OP must be 0 (R93). -/
def decodeControl (i : Instr) (x a b c : Nat) : Except DecodeError Instr :=
  if x ≠ 0 then .error .selectNotZero
  else if a ≠ 0 ∨ b ≠ 0 ∨ c ≠ 0 then .error .operandNotZero
  else .ok i

/-- The four sequence commands: X and C must be 0 (R93). -/
def decodeSequence (i : Instr) (x c : Nat) : Except DecodeError Instr :=
  if x ≠ 0 then .error .selectNotZero
  else if c ≠ 0 then .error .destNotZero
  else .ok i

/-- MODEXP: C must be 0 (R93). -/
def decodeModexp (x a b c : Nat) : Except DecodeError Instr :=
  if c ≠ 0 then .error .destNotZero else .ok (.modexp (selectOf x) a b)

/-- MONTMUL: X must be 0 (R93). -/
def decodeMontmul (x a b c : Nat) : Except DecodeError Instr :=
  if x ≠ 0 then .error .selectNotZero else .ok (.montmul a b c)

/-- R94 on the fields of the word: OP, X, RSV, A, B, C. -/
def decodeFields (op x rsv a b c : Nat) : Except DecodeError Instr :=
  if op = 0x3 ∨ 0xA ≤ op then .error .reservedOpcode
  else if rsv ≠ 0 then .error .reservedBits
  else if op = 0x0 then decodeControl .nop x a b c
  else if op = 0x1 then decodeControl .check x a b c
  else if op = 0x2 then decodeControl .chainInit x a b c
  else if op = 0x4 then decodeSequence (.ecbEnc a b) x c
  else if op = 0x5 then decodeSequence (.ecbDec a b) x c
  else if op = 0x6 then decodeSequence (.cbcEnc a b) x c
  else if op = 0x7 then decodeSequence (.cbcDec a b) x c
  else if op = 0x8 then decodeModexp x a b c
  else decodeMontmul x a b c

/-- R94: Decode. An error is ILLEGAL. -/
def decode (v : Word) : Except DecodeError Instr :=
  decodeFields (bits v 3 0) (bits v 4 4) (bits v 7 5) (bits v 15 8) (bits v 23 16) (bits v 31 24)

/-- What the decoder reads from a word numbered as spec/opcode_table.json numbers it: the table's rows are one
32-bit word each. Bits at and above `nbits` are 0. -/
def decodeTableWord (nbits w : Nat) : Option Instr :=
  match decode (BitVec.ofNat 32 (w % 2 ^ nbits)) with
  | .ok i => some i
  | .error _ => none

/-- A command word from its fields (R91), RSV = 0. -/
def packFields (op x a b c : Nat) : Word :=
  BitVec.ofNat 32 (op + x * 2 ^ 4 + a * 2 ^ 8 + b * 2 ^ 16 + c * 2 ^ 24)

/-- The X field of an exponent select (R91). -/
def selectBit : ExpSel → Nat
  | .keyE => 0
  | .keyD => 1

/-- The word of a command, as R99 gives it. Meaningful for a well-formed command. -/
def encode : Instr → Word
  | .nop => packFields 0x0 0 0 0 0
  | .check => packFields 0x1 0 0 0 0
  | .chainInit => packFields 0x2 0 0 0 0
  | .ecbEnc start count => packFields 0x4 0 start count 0
  | .ecbDec start count => packFields 0x5 0 start count 0
  | .cbcEnc start count => packFields 0x6 0 start count 0
  | .cbcDec start count => packFields 0x7 0 start count 0
  | .modexp x src dst => packFields 0x8 (selectBit x) src dst 0
  | .montmul srcA srcB dst => packFields 0x9 0 srcA srcB dst

/-- R99: the assembler, which "refuses an operand that does not fit its field". -/
def assemble (i : Instr) : Option Word := if i.wellFormed then some (encode i) else none

/-- R99: the name of a buffer index in assembler text, `bN` in decimal. -/
def bufName (n : Nat) : String := "b" ++ toString n

/-- R99: the assembler text of a command, destination first in `modexp.*` and `montmul`. -/
def asmText : Instr → String
  | .nop => "nop"
  | .check => "check"
  | .chainInit => "chain.init"
  | .ecbEnc start count => "ecb.enc " ++ bufName start ++ ", " ++ toString count
  | .ecbDec start count => "ecb.dec " ++ bufName start ++ ", " ++ toString count
  | .cbcEnc start count => "cbc.enc " ++ bufName start ++ ", " ++ toString count
  | .cbcDec start count => "cbc.dec " ++ bufName start ++ ", " ++ toString count
  | .modexp .keyE src dst => "modexp.e " ++ bufName dst ++ ", " ++ bufName src
  | .modexp .keyD src dst => "modexp.d " ++ bufName dst ++ ", " ++ bufName src
  | .montmul srcA srcB dst => "montmul " ++ bufName dst ++ ", " ++ bufName srcA ++ ", " ++ bufName srcB

end Sys2Proof
end

