-- ==== Sys2Proof/Config.lean ====
section
/-! DEFINITION. What an implementation fixes (the OPEN parameters W and NBUF) and the one free value of the
spec (the contents of BUF after reset). -/

namespace Sys2Proof

/-- The parameters of one block: `w` is the operand width W in bits (00_scope.md R7), `nbuf` the number NBUF of
block-buffer entries (R8). Both are OPEN in the spec, so they are data of the state and every statement over all
states covers every configuration (log 1). -/
structure Config where
  w : Nat
  nbuf : Nat
  deriving DecidableEq, Repr

/-- R7 and R8: W is a multiple of 32 with 64 <= W <= 4096, and 1 <= NBUF <= 64. -/
abbrev Config.Ok (c : Config) : Prop :=
  c.w % 32 = 0 ∧ 64 ≤ c.w ∧ c.w ≤ 4096 ∧ 1 ≤ c.nbuf ∧ c.nbuf ≤ 64

/-- R9: NW = W / 32, the number of bus words of one W-bit register. -/
def Config.nw (c : Config) : Nat := c.w / 32

/-- The reference configuration of R7 and R8. DESIGN CHOICE as the configuration of `State.reset` (log 1, unsafe). -/
def Config.reference : Config := ⟨256, 16⟩

/-- R254, U1: the UNSPECIFIED value of BUF entry `i` after the reset numbered `k`: one draw per entry, fixed at
reset. A free value: no body, so nothing can be proved of it (log 2, safe). It is cut to W bits where it is used. -/
opaque Config.bufDraw (k i : Nat) : Nat

end Sys2Proof
end

