-- ==== Sys2Proof/Machine/State.lean ====
section
/-! DEFINITION. The state of the block (10_state.md R20), the events of its agents (00_scope.md R16), the reasons to
stop, and the state after reset (R46). -/

namespace Sys2Proof.Machine

/-- The W-bit registers (R20): the key registers, the chaining registers and the entries of the block buffer. -/
inductive WReg where
  | keyN
  | keyE
  | keyD
  | iv
  | prev
  | buf (i : Nat)
  deriving DecidableEq, Repr

/-- What a mapped word of the address map names (20_memory.md R65): a 32-bit register, or word `k` of a W-bit one. -/
inductive Target where
  | id
  | param
  | bsize
  | cmd
  | status
  | errinfo
  | irqEn
  | wide (r : WReg) (k : Nat)
  deriving DecidableEq, Repr

/-- A bus transaction of the host (R61): the tuple (we, addr, size, wdata). Size 2 is 4 bytes (R60). -/
structure Transaction where
  we : Bool
  addr : Addr
  size : BitVec 2
  wdata : Word
  deriving DecidableEq, Repr

/-- The response (rdata, err) of a transaction (R61). The spec states no read data for a legal write, and the model
says none: `rdata` is then `none` (log 6, safe). -/
structure Response where
  rdata : Option Word
  err : Bool
  deriving DecidableEq, Repr

/-- One step of one of the three agents (R16, R75). -/
inductive Event where
  /-- The host presents a transaction (R61). -/
  | bus (tx : Transaction)
  /-- The engine's turn (R221). -/
  | engine
  /-- rst_n goes low: the reset step (70_reset_and_hazards.md R250, R251). -/
  | resetLow
  /-- rst_n goes high again. -/
  | resetHigh
  deriving DecidableEq, Repr

/-- The error codes of 60_exceptions.md R222 that a command can raise; codes 6 to 15 are never produced. -/
inductive ErrCode where
  | illegal
  | index
  | blockSize
  | modulus
  | blockRange
  deriving DecidableEq, Repr

/-- R20: the state of the block, and beside it the inputs its agents still hold. W-bit registers are naturals, as
R10 reads them; `State.Wf` bounds them by 2^W. BUSY is `pending` being some (R43: "The flag is the same bit as
STATUS.BUSY", log 9). Reserved bits are not stored: they read as 0 (R21). ID and PARAM are hard-wired in the read
operation (log 8). -/
structure State where
  /-- W and NBUF (R7, R8), read through PARAM (R30). No step changes it. -/
  cfg : Config
  /-- BUF[0..NBUF-1] (R23). -/
  buf : List Nat
  /-- KEY_N (R24). -/
  keyN : Nat
  /-- KEY_E (R25). -/
  keyE : Nat
  /-- KEY_D (R26). -/
  keyD : Nat
  /-- IV (R27). -/
  iv : Nat
  /-- PREV (R28). -/
  prev : Nat
  /-- BSIZE.BS (R31). -/
  bs : BitVec 10
  /-- CMD, the last accepted command word (R32). -/
  cmd : Word
  /-- The accepted command not yet completed (R43); STATUS.BUSY is 1 exactly when there is one (R34). -/
  pending : Option Word
  /-- STATUS.DONE (R35). -/
  done : Bool
  /-- STATUS.WERR (R36). -/
  werr : Bool
  /-- STATUS.ERRCODE (R37). -/
  errcode : BitVec 4
  /-- ERRINFO.INDEX (R38). -/
  errIndex : BitVec 8
  /-- IRQ_EN.DONE_IE (R39). -/
  doneIE : Bool
  /-- IRQ_EN.WERR_IE (R39). -/
  werrIE : Bool
  /-- The level of the input rst_n (R60, R250): false is low, in reset. The model's own field (log 7). -/
  rstN : Bool
  /-- The agents' pending actions in their total order (R75), first one first. The model's own field (log 4). -/
  script : List Event
  /-- The response on the bus ports to the latest transaction, none after one that did not complete. The model's
  own field (log 6). -/
  resp : Option Response
  /-- How many resets have drawn BUF values (R254). The model's own field (log 3). -/
  draws : Nat
  deriving DecidableEq, Repr

/-- How the body of a command ends: at its `complete()` (R223) or at a `raise Error(code, index)` (R224), with the
state writes made up to there. -/
inductive CmdEnd where
  | completed (s : State)
  | raised (code : ErrCode) (index : Nat) (s : State)
  deriving DecidableEq, Repr

/-- Why the machine would stop with a fault. It has no constructor: an error ends a command and is recorded (R224),
a bus error is a response (R62), and R221 gives every command an end, so no step of the block stops. Nothing raises
one, which is safe (log 14). -/
inductive Fault where
  deriving DecidableEq, Repr

/-- Why a step would be refused. -/
inductive Refusal where
  /-- Raised by an arm of `exec` for a command without a meaning. No arm raises it: every command has its meaning.
  Safe. -/
  | notModelled (mnemonic : String)
  deriving DecidableEq, Repr

/-- The result type of a meaning and of a step. -/
abbrev Result := Host.Outcome State Fault Refusal

/-- R46, R251: the values after the reset numbered `k` of a block with parameters `cfg`. Each BUF entry is a draw of
its own, cut to W bits (R254, log 2); every other register is 0. The model's own fields: rst_n is high, nothing is
pending from the agents, no response stands, and `k + 1` resets have drawn. -/
def State.atReset (cfg : Config) (k : Nat) : State where
  cfg := cfg
  buf := (List.range cfg.nbuf).map fun i => Config.bufDraw k i % 2 ^ cfg.w
  keyN := 0
  keyE := 0
  keyD := 0
  iv := 0
  prev := 0
  bs := 0
  cmd := 0
  pending := none
  done := false
  werr := false
  errcode := 0
  errIndex := 0
  doneIE := false
  werrIE := false
  rstN := true
  script := []
  resp := none
  draws := k + 1

/-- The machine right after reset, in the reference configuration of R7 and R8 (log 1). It is idle: it waits for a
CMD write (R252). -/
def State.reset : State := State.atReset Config.reference 0

end Sys2Proof.Machine
end

