-- ==== Sys2Proof/Machine/Flags.lean ====
section
/-! DEFINITION. STATUS, ERRINFO, IRQ_EN and the read-only registers as words, the error codes, and the interrupt line
(10_state.md R29 to R40, 60_exceptions.md R222, R227). -/

namespace Sys2Proof.Machine

/-- R222: the number of an error code. -/
def ErrCode.code : ErrCode → BitVec 4
  | .illegal => 1
  | .index => 2
  | .blockSize => 3
  | .modulus => 4
  | .blockRange => 5

/-- R34: STATUS.BUSY, the same bit as the flag of `pending` (R43). -/
def State.busy (s : State) : Bool := s.pending.isSome

/-- R33: STATUS as a word: BUSY 0, DONE 1, WERR 2, ERRCODE 7..4; the reserved bits read as 0. -/
def State.statusWord (s : State) : Word :=
  0#24 ++ s.errcode ++ 0#1 ++ BitVec.ofBool s.werr ++ BitVec.ofBool s.done ++ BitVec.ofBool s.busy

/-- R38: ERRINFO as a word: INDEX in bits 7..0. -/
def State.errinfoWord (s : State) : Word := 0#24 ++ s.errIndex

/-- R39: IRQ_EN as a word: DONE_IE 0, WERR_IE 1. -/
def State.irqEnWord (s : State) : Word := 0#30 ++ BitVec.ofBool s.werrIE ++ BitVec.ofBool s.doneIE

/-- R31: BSIZE as a word: BS in bits 9..0. -/
def State.bsizeWord (s : State) : Word := 0#22 ++ s.bs

/-- R29: the constant of ID. -/
def idWord : Word := 0x52534131

/-- R30: PARAM as a word: VERSION 0x01, NBUF, W. -/
def State.paramWord (s : State) : Word := 1#8 ++ BitVec.ofNat 8 s.cfg.nbuf ++ BitVec.ofNat 16 s.cfg.w

/-- R40, R227: the output `irq`. -/
def State.irq (s : State) : Bool := (s.done && s.doneIE) || (s.werr && s.werrIE)

/-- R35, R36: a host write of `v` to STATUS clears DONE where bit 1 of `v` is 1 and WERR where bit 2 is 1. -/
def State.clearStatus (s : State) (v : Word) : State :=
  { s with done := s.done && !v.getLsbD 1, werr := s.werr && !v.getLsbD 2 }

/-- R39: a host write of `v` to IRQ_EN stores bits 0 and 1. -/
def State.setIrqEn (s : State) (v : Word) : State :=
  { s with doneIE := v.getLsbD 0, werrIE := v.getLsbD 1 }

/-- R31: a host write of `v` to BSIZE stores bits 9..0. -/
def State.setBsize (s : State) (v : Word) : State := { s with bs := v.setWidth 10 }

end Sys2Proof.Machine
end

