-- ==== Sys2Proof/Machine/Arith.lean ====
section
/-! DEFINITION. The number functions of the rules, on unbounded naturals (00_scope.md R10): bitLength, mask, powmod,
the transform T, the block-size and modulus predicates, the Montgomery product, and the words of a wide value. -/

namespace Sys2Proof.Machine

/-- R12: the number of bits of `v` without leading zeros; `bitLength 0 = 0`. -/
def bitLength (v : Nat) : Nat := if v = 0 then 0 else Nat.log2 v + 1

/-- R13: `mask(bs) = 2^(8*bs) - 1`. -/
def mask (bs : Nat) : Nat := 2 ^ (8 * bs) - 1

/-- R110: the block-size predicate `(bs >= 1) and (8 * bs < bitLength(n))`. -/
def blockSizeOK (bs n : Nat) : Bool := decide (1 ≤ bs ∧ 8 * bs < bitLength n)

/-- R130: the modulus predicate, `n mod 2 = 1`. -/
def modulusOK (n : Nat) : Bool := decide (n % 2 = 1)

/-- Square and multiply over the `k` low bits of the exponent `x`, least significant bit first. -/
def powSteps (n : Nat) : Nat → Nat → Nat → Nat
  | 0, _, _ => 1 % n
  | k + 1, b, x =>
    if x % 2 = 1 then b * powSteps n k (b * b % n) (x / 2) % n else powSteps n k (b * b % n) (x / 2)

/-- R14: `powmod(b, x, n) = b^x mod n`, with `b^0 = 1`. Computed by square and multiply, so that it can be run on wide
keys; `Laws.powmod_eq` proves it equal to the power (log 11, safe). -/
def powmod (b x n : Nat) : Nat := powSteps n (bitLength x) (b % n) x

/-- R131: the transform T, the source's `rsaTransform`. -/
def transform (v x n : Nat) : Nat := powmod v x n

/-- R132: the encryption range check fails for a transform input of at least the modulus. -/
def outOfRange (v n : Nat) : Bool := decide (n ≤ v)

/-- R135: Rinv, the inverse of the radix R = 2^W modulo odd `n`. For odd `n`, (n + 1)/2 is the inverse of 2, so its
W-th power is the inverse of 2^W (log 12, DEDUCED, safe). -/
def radixInv (w n : Nat) : Nat := powmod ((n + 1) / 2) w n

/-- R135: `MonPro(a, b, n) = (a * b * Rinv) mod n`. -/
def monPro (w a b n : Nat) : Nat := a * b * radixInv w n % n

/-- R66: word `k` of a W-bit value, bits 32k+31..32k. -/
def wordOf (x k : Nat) : Nat := x / 2 ^ (32 * k) % 2 ^ 32

/-- R66: the value with word `k` replaced by `v`, `X - (X[32k+31:32k] << 32k) + (v << 32k)`. -/
def setWord (x k v : Nat) : Nat := x - wordOf x k * 2 ^ (32 * k) + v * 2 ^ (32 * k)

end Sys2Proof.Machine
end

