-- ==== Sys2Proof/Machine/Operands.lean ====
section
/-! DEFINITION. The operand forms of the commands: entries of the block buffer, the exponent select, the block size,
the index checks (10_state.md R22, 30_encoding.md R92, R98). -/

namespace Sys2Proof.Machine

/-- `BUF[i]` (R15). In a state that meets `State.Wf` every entry below NBUF is there; the 0 of a shorter list is read
in no such state (log 15). -/
def State.bufAt (s : State) (i : Nat) : Nat := s.buf.getD i 0

/-- `BUF[i] <- v` (R15). -/
def State.setBuf (s : State) (i v : Nat) : State := { s with buf := s.buf.set i v }

/-- `reg[PREV] <- v` (R28). -/
def State.setPrev (s : State) (v : Nat) : State := { s with prev := v }

/-- BSIZE.BS as a natural (R31). -/
def State.blockSize (s : State) : Nat := s.bs.toNat

/-- The exponent MODEXP selects by X (R91): KEY_E or KEY_D. -/
def State.exponent (s : State) : ExpSel → Nat
  | .keyE => s.keyE
  | .keyD => s.keyD

/-- R98: a buffer index is below NBUF. -/
def State.indexOK (s : State) (i : Nat) : Bool := decide (i < s.cfg.nbuf)

/-- R98: START + COUNT <= NBUF. -/
def State.runOK (s : State) (start count : Nat) : Bool := decide (start + count ≤ s.cfg.nbuf)

/-- `blockSizeOK(BSIZE.BS, KEY_N)` (R110). -/
def State.sizeOK (s : State) : Bool := blockSizeOK s.blockSize s.keyN

/-- The chaining value a CBC block starts from: `PREV and mask(bs)` (R170). -/
def State.chain (s : State) : Nat := s.prev &&& mask s.blockSize

end Sys2Proof.Machine
end

