-- ==== Sys2Proof/Machine/Ops.lean ====
section
/-! DEFINITION. The named operations the commands share: acceptance (60_exceptions.md R220), the two ends of a
command (R223, R224), the run over consecutive blocks (42_ecb.md, 43_cbc.md), the checks of a sequence command
(R225), and the reset step (70_reset_and_hazards.md R251). -/

namespace Sys2Proof.Machine

/-- R220: acceptance of the command word `v`. -/
def State.accept (s : State) (v : Word) : State :=
  { s with cmd := v, pending := some v, done := false }

/-- R223: `complete()`. -/
def State.complete (s : State) : State :=
  { s with errcode := 0, errIndex := 0, done := true, pending := none }

/-- R224: `raise Error(code, index)`. This block has no trap entry (R228): an error ends the command, keeps the state
writes made before it, and records its code and index. -/
def State.raiseError (s : State) (code : ErrCode) (index : Nat) : State :=
  { s with errcode := code.code, errIndex := BitVec.ofNat 8 index, done := true, pending := none }

/-- The state after a command whose body ended so (R223, R224). -/
def CmdEnd.finish : CmdEnd → State
  | .completed s => s.complete
  | .raised code index s => s.raiseError code index

/-- The block loop of a sequence command, `for i from i to i + k - 1` in increasing order (R41, R101): the block index
exists only here, and an error ends the run at once (R224). -/
def forBlocks (body : Nat → State → CmdEnd) : Nat → Nat → State → CmdEnd
  | 0, _, s => .completed s
  | k + 1, i, s =>
    match body i s with
    | .completed t => forBlocks body k (i + 1) t
    | .raised code index t => .raised code index t

/-- A sequence command: the checks INDEX, BLOCKSIZE, MODULUS in the order of R225, then the body on each block of the
run. -/
def sequenceCommand (body : Nat → State → CmdEnd) (start count : Nat) (s : State) : Result :=
  if s.runOK start count = false then .next (s.raiseError .index 0)
  else if s.sizeOK = false then .next (s.raiseError .blockSize 0)
  else if modulusOK s.keyN = false then .next (s.raiseError .modulus 0)
  else .next (forBlocks body count start s).finish

/-- R250, R251: rst_n goes low. Every register takes its reset value, BUF is drawn anew, a pending command and a
transaction in progress are discarded. The parameters and the agents' later actions stay (log 16). -/
def State.resetAsserted (s : State) : State :=
  { State.atReset s.cfg s.draws with rstN := false, script := s.script }

/-- R250: rst_n goes high; the block waits for a CMD write (R252). -/
def State.resetReleased (s : State) : State := { s with rstN := true }

end Sys2Proof.Machine
end

