-- ==== Sys2Proof/Machine/Bus.lean ====
section
/-! DEFINITION. The register bus of 20_memory.md: the address map (R65, R67), legal transactions (R62), reads (R63,
R81) and writes (R64, R68, R80). -/

namespace Sys2Proof.Machine

/-- R65: word `k` of the window at `base`, for a byte address `n` that is aligned; none outside its NW words (R67). -/
def windowWord (cfg : Config) (base n : Nat) : Option Nat :=
  if base ≤ n ∧ n < base + 4 * cfg.nw then some ((n - base) / 4) else none

/-- R65: the block-buffer region from 0x8000, 0x200 bytes an entry. -/
def bufWord (cfg : Config) (n : Nat) : Option Target :=
  let i := (n - 0x8000) / 0x200
  let k := (n - 0x8000) % 0x200 / 4
  if 0x8000 ≤ n ∧ i < cfg.nbuf ∧ k < cfg.nw then some (.wide (.buf i) k) else none

/-- R65: the wide register whose window of 0x200 bytes holds the address, from 0x1000 to 0x19FF. -/
def windowTarget (cfg : Config) (n : Nat) : Option Target :=
  if n < 0x1000 then none
  else if n < 0x1200 then (windowWord cfg 0x1000 n).map (.wide .keyN)
  else if n < 0x1400 then (windowWord cfg 0x1200 n).map (.wide .keyE)
  else if n < 0x1600 then (windowWord cfg 0x1400 n).map (.wide .keyD)
  else if n < 0x1800 then (windowWord cfg 0x1600 n).map (.wide .iv)
  else if n < 0x1A00 then (windowWord cfg 0x1800 n).map (.wide .prev)
  else bufWord cfg n

/-- R65, R67: the mapped word at a byte address; none for a misaligned or unmapped one. -/
def addrTarget (cfg : Config) (a : Addr) : Option Target :=
  let n := a.toNat
  if n % 4 ≠ 0 then none
  else if n = 0x0000 then some .id
  else if n = 0x0004 then some .param
  else if n = 0x0008 then some .bsize
  else if n = 0x000C then some .cmd
  else if n = 0x0010 then some .status
  else if n = 0x0014 then some .errinfo
  else if n = 0x0018 then some .irqEn
  else windowTarget cfg n

/-- R62: the word a legal transaction names; none for an illegal one. -/
def legalTarget (cfg : Config) (tx : Transaction) : Option Target :=
  if tx.size = 2 then addrTarget cfg tx.addr else none

/-- The contents of a W-bit register (R20). -/
def State.wide (s : State) : WReg → Nat
  | .keyN => s.keyN
  | .keyE => s.keyE
  | .keyD => s.keyD
  | .iv => s.iv
  | .prev => s.prev
  | .buf i => s.bufAt i

/-- Write a W-bit register whole. -/
def State.setWide (s : State) (r : WReg) (v : Nat) : State :=
  match r with
  | .keyN => { s with keyN := v }
  | .keyE => { s with keyE := v }
  | .keyD => { s with keyD := v }
  | .iv => { s with iv := v }
  | .prev => s.setPrev v
  | .buf i => s.setBuf i v

/-- R81: the registers whose words read as 0 while BUSY = 1. -/
def WReg.hidden : WReg → Bool
  | .prev => true
  | .buf _ => true
  | .keyN => false
  | .keyE => false
  | .keyD => false
  | .iv => false

/-- R63, R66, R81: the value a legal read of the word returns. ID and PARAM are hard-wired here (R29, R30). -/
def State.readWord (s : State) : Target → Word
  | .id => idWord
  | .param => s.paramWord
  | .bsize => s.bsizeWord
  | .cmd => s.cmd
  | .status => s.statusWord
  | .errinfo => s.errinfoWord
  | .irqEn => s.irqEnWord
  | .wide r k => if s.busy && r.hidden then 0 else BitVec.ofNat 32 (wordOf (s.wide r) k)

/-- R80: a dropped write keeps the target and sets WERR. -/
def State.dropWrite (s : State) : State := { s with werr := true }

/-- R64, R68, R80: the state after a legal write of `v` to the word. -/
def State.writeWord (s : State) (t : Target) (v : Word) : State :=
  match t with
  | .id => s
  | .param => s
  | .errinfo => s
  | .status => s.clearStatus v
  | .irqEn => s.setIrqEn v
  | .bsize => if s.busy then s.dropWrite else s.setBsize v
  | .cmd => if s.busy then s.dropWrite else s.accept v
  | .wide r k => if s.busy then s.dropWrite else s.setWide r (setWord (s.wide r) k v.toNat)

/-- R62: the response of an illegal transaction, err = 1 and rdata = 0. -/
def Response.busError : Response := ⟨some 0, true⟩

/-- R61: one transaction: the state after it and its response. -/
def State.transact (s : State) (tx : Transaction) : State × Response :=
  match legalTarget s.cfg tx with
  | none => (s, Response.busError)
  | some t => if tx.we then (s.writeWord t tx.wdata, ⟨none, false⟩) else (s, ⟨some (s.readWord t), false⟩)

/-- The host's step: the transaction is performed and its response stands on the ports. While rst_n is low the block
completes no transaction (R250): it is dropped (R251, U12, log 7). -/
def State.busEvent (s : State) (tx : Transaction) : State :=
  if s.rstN then { (s.transact tx).1 with resp := some (s.transact tx).2 } else { s with resp := none }

end Sys2Proof.Machine
end

