-- ==== Sys2Proof/Machine/Cbc.lean ====
section
/-! DEFINITION. The CBC-like sequence commands of 43_cbc.md. The loop variable p of R171 and R172 is read from PREV
and masked at each block: before the first block that is R170's entry value, and before every later one PREV holds
the p written after the block before it, already masked (log 10, DEDUCED, safe). -/

namespace Sys2Proof.Machine

/-- The chaining value after the ciphertext block `c`: `c and mask(bs)` (R170). -/
def State.chainAfter (s : State) (c : Nat) : Nat := c &&& mask s.blockSize

/-- R171: one block of CBC_ENC. -/
def cbcEncBlock (i : Nat) (s : State) : CmdEnd :=
  let mixed := s.bufAt i ^^^ s.chain
  if outOfRange mixed s.keyN then .raised .blockRange i s
  else
    let c := transform mixed s.keyE s.keyN
    .completed ((s.setBuf i c).setPrev (s.chainAfter c))

/-- R172: one block of CBC_DEC. The chaining value is the ciphertext read before the entry is overwritten. -/
def cbcDecBlock (i : Nat) (s : State) : CmdEnd :=
  let c := s.bufAt i
  let mixed := transform c s.keyD s.keyN &&& mask s.blockSize
  .completed ((s.setBuf i (mixed ^^^ s.chain)).setPrev (s.chainAfter c))

/-- R171: CBC_ENC. -/
def execCbcEnc (start count : Nat) (s : State) : Result := sequenceCommand cbcEncBlock start count s

/-- R172: CBC_DEC. -/
def execCbcDec (start count : Nat) (s : State) : Result := sequenceCommand cbcDecBlock start count s

end Sys2Proof.Machine
end

