-- ==== Sys2Proof/Machine/Control.lean ====
section
/-! DEFINITION. The control and validation commands of 40_control.md: NOP, CHECK, CHAIN_INIT. -/

namespace Sys2Proof.Machine

/-- R111: NOP. -/
def execNop (s : State) : Result := .next s.complete

/-- R112: CHECK. -/
def execCheck (s : State) : Result :=
  if s.sizeOK = false then .next (s.raiseError .blockSize 0) else .next s.complete

/-- R113: CHAIN_INIT. -/
def execChainInit (s : State) : Result :=
  if s.sizeOK = false then .next (s.raiseError .blockSize 0)
  else .next (s.setPrev (s.iv &&& mask s.blockSize)).complete

end Sys2Proof.Machine
end

