-- ==== Sys2Proof/Machine/Ecb.lean ====
section
/-! DEFINITION. The ECB sequence commands of 42_ecb.md. -/

namespace Sys2Proof.Machine

/-- R150: one block of ECB_ENC. -/
def ecbEncBlock (i : Nat) (s : State) : CmdEnd :=
  if outOfRange (s.bufAt i) s.keyN then .raised .blockRange i s
  else .completed (s.setBuf i (transform (s.bufAt i) s.keyE s.keyN))

/-- R151: one block of ECB_DEC; no range check (R132). -/
def ecbDecBlock (i : Nat) (s : State) : CmdEnd :=
  .completed (s.setBuf i (transform (s.bufAt i) s.keyD s.keyN))

/-- R150: ECB_ENC. -/
def execEcbEnc (start count : Nat) (s : State) : Result := sequenceCommand ecbEncBlock start count s

/-- R151: ECB_DEC. -/
def execEcbDec (start count : Nat) (s : State) : Result := sequenceCommand ecbDecBlock start count s

end Sys2Proof.Machine
end

