-- ==== Sys2Proof/Machine/Modexp.lean ====
section
/-! DEFINITION. The exponentiation engine's commands of 41_engine.md: MODEXP and MONTMUL. -/

namespace Sys2Proof.Machine

/-- R133: MODEXP. The value is read before the result is written, so SRC = DST is allowed. -/
def execModexp (x : ExpSel) (src dst : Nat) (s : State) : Result :=
  if s.indexOK src = false ∨ s.indexOK dst = false then .next (s.raiseError .index 0)
  else if modulusOK s.keyN = false then .next (s.raiseError .modulus 0)
  else if x = .keyE ∧ outOfRange (s.bufAt src) s.keyN = true then .next (s.raiseError .blockRange src)
  else .next (s.setBuf dst (transform (s.bufAt src) (s.exponent x) s.keyN)).complete

/-- R134: MONTMUL. Both operands are read before the result is written, so any aliasing is allowed. -/
def execMontmul (srcA srcB dst : Nat) (s : State) : Result :=
  if s.indexOK srcA = false ∨ s.indexOK srcB = false ∨ s.indexOK dst = false then .next (s.raiseError .index 0)
  else if modulusOK s.keyN = false then .next (s.raiseError .modulus 0)
  else if outOfRange (s.bufAt srcA) s.keyN = true then .next (s.raiseError .blockRange srcA)
  else if outOfRange (s.bufAt srcB) s.keyN = true then .next (s.raiseError .blockRange srcB)
  else .next (s.setBuf dst (monPro s.cfg.w (s.bufAt srcA) (s.bufAt srcB) s.keyN)).complete

end Sys2Proof.Machine
end

