-- ==== Sys2Proof/Machine/Dispatch.lean ====
section
/-! DEFINITION. The dispatch of the engine step (60_exceptions.md R221): one arm per command. -/

namespace Sys2Proof.Machine

def exec (i : Instr) (s : State) : Host.Outcome State Fault Refusal :=
  match i with
  | .nop => Sys2Proof.Machine.execNop s
  | .check => Sys2Proof.Machine.execCheck s
  | .chainInit => Sys2Proof.Machine.execChainInit s
  | .ecbEnc start count => Sys2Proof.Machine.execEcbEnc start count s
  | .ecbDec start count => Sys2Proof.Machine.execEcbDec start count s
  | .cbcEnc start count => Sys2Proof.Machine.execCbcEnc start count s
  | .cbcDec start count => Sys2Proof.Machine.execCbcDec start count s
  | .modexp x src dst => Sys2Proof.Machine.execModexp x src dst s
  | .montmul srcA srcB dst => Sys2Proof.Machine.execMontmul srcA srcB dst s

end Sys2Proof.Machine
end

