-- ==== Sys2Proof/Machine/Schedule.lean ====
section
/-! DEFINITION. One step of the machine: the engine step (60_exceptions.md R221) and the events of the agents in
their total order (20_memory.md R75). -/

namespace Sys2Proof.Machine

/-- R221: the engine step on the pending word: decode it, end with ILLEGAL or perform the command. -/
def runCommand (v : Word) (s : State) : Result :=
  match decode v with
  | .ok i => exec i s
  | .error _ => .next (s.raiseError .illegal 0)

/-- The engine's turn: its step is enabled exactly when BUSY = 1 (R221) and rst_n is high (R250). When it is not
enabled the block is idle and keeps its state (R235; log 13). -/
def engineTurn (s : State) : Result :=
  if s.rstN = false then .next s
  else
    match s.pending with
    | none => .next s
    | some v => runCommand v s

/-- One event (R16). -/
def perform (e : Event) (s : State) : Result :=
  match e with
  | .bus tx => .next (s.busEvent tx)
  | .engine => engineTurn s
  | .resetLow => .next s.resetAsserted
  | .resetHigh => .next s.resetReleased

/-- The next event of the script; when no agent has an action left, the engine's turn, so that every accepted
command completes (R221's fairness, log 4). -/
def turn (s : State) : Result :=
  match s.script with
  | [] => engineTurn s
  | e :: rest => perform e { s with script := rest }

/-- The state in which the engine's next step runs the command word `v`: rst_n is high, the word is accepted (R220)
and no other agent moves first (log 5). -/
def State.armed (s : State) (v : Word) : State := { s.accept v with rstN := true, script := [] }

end Sys2Proof.Machine
end

