-- ==== Sys2Proof/Machine/Step.lean ====
section
/-! DEFINITION. The step function of the machine (00_scope.md R16). -/

namespace Sys2Proof.Machine

/-- One step: one event of the total order of R75. -/
def step (s : State) : Host.Outcome State Fault Refusal := turn s

/-- The state whose very next step runs the command of the table word `w`: the block fetches nothing (R41), so the
word stands where the engine step reads it, in the `pending` latch, as an accepted CMD write leaves it (R220, log 5).
Bits at and above `nbits` are 0. -/
def State.withFetchWord (s : State) (nbits w : Nat) : State := s.armed (BitVec.ofNat 32 (w % 2 ^ nbits))

end Sys2Proof.Machine
end

