-- ==== Sys2Proof/Machine/Datapath.lean ====
section
/-! DEFINITION. The sub-blocks `montgomery_mult` and `modexp_pipeline` (00_scope.md R2) by the informative algorithms
of 41_engine.md R136 and R137. No meaning calls them: the commands compute the functions (R131, R135), and the
obligations about these two say that the algorithms compute the same functions, the rules' only normative content. -/

namespace Sys2Proof.Machine

/-- R44: the derived constant `R2 = R^2 mod N`, with R = 2^W. -/
def radixSq (w n : Nat) : Nat := 2 ^ w * 2 ^ w % n

/-- R44: the derived constant `N' = -N^(-1) mod 2^32` of an odd N, whose inverse is N^(2^31 - 1) mod 2^32. -/
def negInv32 (n : Nat) : Nat := (2 ^ 32 - powmod n (2 ^ 31 - 1) (2 ^ 32)) % 2 ^ 32

/-- R137: one 32-bit digit `ai` of the word-serial product. -/
def montDigit (n n' ai b t : Nat) : Nat :=
  let t1 := t + ai * b
  let u := t1 % 2 ^ 32 * n' % 2 ^ 32
  (t1 + u * n) / 2 ^ 32

/-- R137: the digits i, ..., i + k - 1 in increasing order. -/
def montDigits (n n' a b : Nat) : Nat → Nat → Nat → Nat
  | 0, _, t => t
  | k + 1, i, t => montDigits n n' a b k (i + 1) (montDigit n n' (wordOf a i) b t)

/-- R137: `montgomery_mult`, word-serial Montgomery multiplication with NW = W/32 digits of 32 bits. -/
def montgomeryMult (w a b n : Nat) : Nat :=
  let t := montDigits n (negInv32 n) a b (w / 32) 0 0
  if n ≤ t then t - n else t

/-- R136: the loop over the exponent bits k - 1, ..., 0. -/
def pipelineSteps (w n vm x : Nat) : Nat → Nat → Nat
  | 0, acc => acc
  | k + 1, acc =>
    let sq := montgomeryMult w acc acc n
    pipelineSteps w n vm x k (if x / 2 ^ k % 2 = 1 then montgomeryMult w sq vm n else sq)

/-- R136: `modexp_pipeline`, left-to-right binary exponentiation in the Montgomery domain. -/
def modexpPipeline (w v x n : Nat) : Nat :=
  let r2 := radixSq w n
  let vm := montgomeryMult w (v % n) r2 n
  let one := montgomeryMult w (1 % n) r2 n
  montgomeryMult w (pipelineSteps w n vm x (bitLength x) one) 1 n

end Sys2Proof.Machine
end

