-- ==== Sys2Proof/Machine/Codec.lean ====
section
/-! DEFINITION. The host's number and text procedures of 45_host.md: key generation from given primes (R190), padding
(R192, R193), UTF-8 (R194), blocks and bytes (R195 to R197), serialization (R211). They bind the host's software, not
the block (log 18). -/

namespace Sys2Proof.Machine

/-- Why a host operation fails: the source's error kinds and what R210 makes of a hardware code. -/
inductive HostError where
  /-- `KeyGenerationError` (R190). -/
  | keyGeneration
  /-- The list of prime draws ran out while q had to be redrawn: the model's own, draws being a finite list (log 18). -/
  | drawsExhausted
  /-- `PaddingError` (R193, R197). -/
  | padding
  /-- The host refuses to pad: the padding length does not fit in a byte. R192 says only that the operation fails and
  names no error kind: that this is a kind of its own, apart from `PaddingError`, is the model's (log 18, DESIGN
  CHOICE). -/
  | paddingCeiling
  /-- `DecodeError` (R194). -/
  | decodeText
  /-- `BlockSizeError`, code 3 (R205, R210). -/
  | blockSize
  /-- `BlockRangeError`, code 5 (R210). -/
  | blockRange
  /-- Codes 1 and 2: a host programming error (R210), for which the source has no kind (log 18, DESIGN CHOICE). -/
  | programming
  /-- Code 4: a key the block cannot process (R210), for which the source has no kind (log 18, DESIGN CHOICE). -/
  | keyUnsupported
  /-- A value of at least 2^W does not fit a register (R6, R191), or the block has no such BUF entry (R8); the kind is the
  model's (log 18, DESIGN CHOICE). -/
  | doesNotFit
  /-- ID does not read as 0x52534131 (70_reset_and_hazards.md R253, step 1), which names no error kind (log 18, DESIGN
  CHOICE). -/
  | wrongDevice
  /-- A read got no response, as while rst_n is low (R250): U12 says that the host must not assume one arrived, and names
  no error kind (log 22, DESIGN CHOICE). -/
  | noResponse
  deriving DecidableEq, Repr

/-- R190: a key pair. -/
structure KeyPair where
  modulus : Nat
  publicExponent : Nat
  privateExponent : Nat
  deriving DecidableEq, Repr

/-- R190: "redraws `q` while `q == p`": the first draw that differs from `p`. -/
def redraw (p : Nat) : List Nat → Option Nat
  | [] => none
  | q :: rest => if q = p then redraw p rest else some q

/-- R190: the modular inverse of `a` modulo `m`, in [0, m). -/
def modularInverse (a m : Nat) : Nat := (Nat.gcdA a m % (m : Int)).toNat

/-- R190: `keygen` on the draws of the prime source, which is no part of the block (R5): `p`, then the draws for `q`.
Each draw is a prime of `bitLength` bits; `PrimeDraw` says so. -/
def keygen (p : Nat) (qs : List Nat) : Except HostError KeyPair :=
  match redraw p qs with
  | none => .error .drawsExhausted
  | some q =>
    let totient := (p - 1) * (q - 1)
    if totient % 65537 = 0 then .error .keyGeneration
    else .ok ⟨p * q, 65537, modularInverse 65537 totient⟩

/-- R190, D45: a draw of the prime source: a prime `p` with bitLength(p) = bitLength. -/
abbrev PrimeDraw (len p : Nat) : Prop := Nat.Prime p ∧ bitLength p = len

/-- R203, U15: a draw of the IV source for block size `bs`: the IV is drawn from [0, 256^BlockSize). -/
abbrev IvDraw (bs iv : Nat) : Prop := iv < 256 ^ bs

/-- R192: `paddingLen = bs - (L mod bs)`. -/
def paddingLen (bs len : Nat) : Nat := bs - len % bs

/-- R192: padding; refused when the padding length does not fit in a byte (the error kind is the model's, log 18). -/
def pad (bs : Nat) (bytes : List Byte) : Except HostError (List Byte) :=
  let p := paddingLen bs bytes.length
  if 256 ≤ p then .error .paddingCeiling else .ok (bytes ++ List.replicate p (BitVec.ofNat 8 p))

/-- R193: unpadding. The stripped bytes are not compared (D40). An empty string has no last byte: PaddingError
(log 18, DESIGN CHOICE). -/
def unpad (bytes : List Byte) : Except HostError (List Byte) :=
  match bytes.getLast? with
  | none => .error .padding
  | some b =>
    let p := b.toNat
    if bytes.length < p then .error .padding
    else if p = 0 then .error .padding
    else .ok (bytes.take (bytes.length - p))

/-- R194: the UTF-8 bytes of one Unicode scalar value. -/
def utf8Char (c : Char) : List Byte :=
  let n := c.toNat
  let tail (k : Nat) : Byte := BitVec.ofNat 8 (0x80 + n / 2 ^ (6 * k) % 64)
  if n < 0x80 then [BitVec.ofNat 8 n]
  else if n < 0x800 then [BitVec.ofNat 8 (0xC0 + n / 2 ^ 6), tail 0]
  else if n < 0x10000 then [BitVec.ofNat 8 (0xE0 + n / 2 ^ 12), tail 1, tail 0]
  else [BitVec.ofNat 8 (0xF0 + n / 2 ^ 18), tail 2, tail 1, tail 0]

/-- R194: the UTF-8 bytes of a text. -/
def utf8Encode (text : List Char) : List Byte := text.flatMap utf8Char

/-- R194: the six payload bits of a continuation byte, none if it is not one. -/
def utf8Tail (b : Byte) : Option Nat :=
  if 0x80 ≤ b.toNat ∧ b.toNat < 0xC0 then some (b.toNat - 0x80) else none

/-- R194: a scalar value of at least `low` that is no surrogate and at most U+10FFFF; none otherwise. A value below
`low` would be an overlong form. -/
def utf8Scalar (low n : Nat) : Option Char :=
  if low ≤ n ∧ n ≤ 0x10FFFF ∧ ¬(0xD800 ≤ n ∧ n ≤ 0xDFFF) then some (Char.ofNat n) else none

/-- R194: the first scalar value of a byte string and the bytes after it. -/
def utf8Next : List Byte → Option (Char × List Byte)
  | [] => none
  | b0 :: rest =>
    let n := b0.toNat
    if n < 0x80 then (utf8Scalar 0 n).map (·, rest)
    else if n < 0xC0 then none
    else if n < 0xE0 then
      match rest with
      | b1 :: rest => do
        let t1 ← utf8Tail b1
        let c ← utf8Scalar 0x80 ((n - 0xC0) * 2 ^ 6 + t1)
        return (c, rest)
      | _ => none
    else if n < 0xF0 then
      match rest with
      | b1 :: b2 :: rest => do
        let t1 ← utf8Tail b1
        let t2 ← utf8Tail b2
        let c ← utf8Scalar 0x800 ((n - 0xE0) * 2 ^ 12 + t1 * 2 ^ 6 + t2)
        return (c, rest)
      | _ => none
    else if n < 0xF8 then
      match rest with
      | b1 :: b2 :: b3 :: rest => do
        let t1 ← utf8Tail b1
        let t2 ← utf8Tail b2
        let t3 ← utf8Tail b3
        let c ← utf8Scalar 0x10000 ((n - 0xF0) * 2 ^ 18 + t1 * 2 ^ 12 + t2 * 2 ^ 6 + t3)
        return (c, rest)
      | _ => none
    else none

/-- R194: decoding of at most `fuel` scalar values; a byte string of that length holds no more. -/
def utf8DecodeUpTo : Nat → List Byte → Option (List Char)
  | _, [] => some []
  | 0, _ :: _ => none
  | fuel + 1, bytes =>
    match utf8Next bytes with
    | none => none
    | some (c, rest) => (utf8DecodeUpTo fuel rest).map (c :: ·)

/-- R194: "Fails with `DecodeError` if the result is not valid UTF-8". -/
def utf8Decode (bytes : List Byte) : Except HostError (List Char) :=
  match utf8DecodeUpTo bytes.length bytes with
  | some text => .ok text
  | none => .error .decodeText

/-- R195: the big-endian integer of a byte string. -/
def blockOfBytes (bytes : List Byte) : Nat := bytes.foldl (fun acc b => acc * 256 + b.toNat) 0

/-- The low `k` base-256 digits of `v`, most significant first. -/
def bigEndian : Nat → Nat → List Byte
  | 0, _ => []
  | k + 1, v => BitVec.ofNat 8 (v / 256 ^ k) :: bigEndian k v

/-- R197: exactly `bs` big-endian bytes, "left-zero-padded if the integer is smaller"; PaddingError when it does not
fit (D41). -/
def bytesOfBlock (bs v : Nat) : Except HostError (List Byte) :=
  if 256 ^ bs ≤ v then .error .padding else .ok (bigEndian bs v)

/-- Consecutive chunks of `m` elements, at most `fuel` of them. -/
def chunks {α : Type} (m : Nat) : Nat → List α → List (List α)
  | 0, _ => []
  | fuel + 1, l => if l.isEmpty then [] else l.take m :: chunks m fuel (l.drop m)

/-- R196: `textToBlocks`. -/
def textToBlocks (text : List Char) (bs : Nat) : Except HostError (List Nat) :=
  match pad bs (utf8Encode text) with
  | .error e => .error e
  | .ok bytes => .ok ((chunks bs bytes.length bytes).map blockOfBytes)

/-- R197: the concatenated bytes of a sequence of blocks. -/
def bytesOfBlocks (bs : Nat) : List Nat → Except HostError (List Byte)
  | [] => .ok []
  | v :: rest =>
    match bytesOfBlock bs v, bytesOfBlocks bs rest with
    | .ok b, .ok more => .ok (b ++ more)
    | .error e, _ => .error e
    | .ok _, .error e => .error e

/-- R197: `blocksToText`. -/
def blocksToText (blocks : List Nat) (bs : Nat) : Except HostError (List Char) :=
  match bytesOfBlocks bs blocks with
  | .error e => .error e
  | .ok bytes =>
    match unpad bytes with
    | .error e => .error e
    | .ok plain => utf8Decode plain

/-- R211, D39: a ciphertext block in `ceil(bitLength(n)/8)` big-endian bytes. -/
def serializeCipher (n c : Nat) : List Byte := bigEndian ((bitLength n + 7) / 8) c

/-- R211, D39: the IV or a plaintext block in `bs` big-endian bytes. -/
def serializePlain (bs v : Nat) : List Byte := bigEndian bs v

end Sys2Proof.Machine
end

