-- ==== Sys2Proof/Machine/HostSide.lean ====
section
/-! DEFINITION. The host's programs: the operations and pseudo-operations of 30_encoding.md R100 as events, and the six
core operations of 45_host.md R204 to R209 driven over the machine. The driver lets the engine run right after each CMD
write (log 19); R200's discipline makes the results the same under every schedule. Every write of an operation and every
command is issued while BUSY = 0 (R253, R256): `State.whenIdle` awaits that. A host that has booted knows W and NBUF from
PARAM (R253): they are the argument `c` of its operations. -/

namespace Sys2Proof.Machine

/-- R65: the address of a 32-bit register, or the window address `base(REG)` of a W-bit one. -/
def WReg.base : WReg → Nat
  | .keyN => 0x1000
  | .keyE => 0x1200
  | .keyD => 0x1400
  | .iv => 0x1600
  | .prev => 0x1800
  | .buf i => 0x8000 + 0x200 * i

/-- R65: the byte address of a mapped word. -/
def Target.address : Target → Nat
  | .id => 0x0000
  | .param => 0x0004
  | .bsize => 0x0008
  | .cmd => 0x000C
  | .status => 0x0010
  | .errinfo => 0x0014
  | .irqEn => 0x0018
  | .wide r k => r.base + 4 * k

/-- R100: `wr ADDR, V`. -/
def wr (t : Target) (v : Word) : Event := .bus ⟨true, BitVec.ofNat 16 t.address, 2, v⟩

/-- R100: `rd ADDR`. -/
def rd (t : Target) : Event := .bus ⟨false, BitVec.ofNat 16 t.address, 2, 0⟩

/-- R100: `wrw REG, V`: all NW words, in increasing order. -/
def wrw (cfg : Config) (r : WReg) (v : Nat) : List Event :=
  (List.range cfg.nw).map fun k => wr (.wide r k) (BitVec.ofNat 32 (wordOf v k))

/-- R100: `rdw REG`. -/
def rdw (cfg : Config) (r : WReg) : List Event := (List.range cfg.nw).map fun k => rd (.wide r k)

/-- R100: `cmd <command>`. -/
def cmdWrite (i : Instr) : Event := wr .cmd (encode i)

/-- R100: `wait`: `polls` reads of STATUS while BUSY = 1, the engine's turn, the read that sees BUSY = 0, and the
write that clears DONE. -/
def wait (polls : Nat) : List Event :=
  List.replicate polls (rd .status) ++ [.engine, rd .status, wr .status 2]

/-- R100: `run <command>`. -/
def run (i : Instr) (polls : Nat) : List Event := cmdWrite i :: wait polls

/-- The state after one event of the host's schedule. -/
def State.after (s : State) (e : Event) : State :=
  match perform e s with
  | .next t => t
  | .fault _ => s
  | .refused _ => s

/-- The state after a sequence of events. -/
def State.play (s : State) (es : List Event) : State := es.foldl State.after s

/-- What the host reads from a word (R63): the data of the response, none when there is no response, as while rst_n is
low (R250). -/
def State.hostResponse (s : State) (t : Target) : Option Word :=
  match (s.after (rd t)).resp with
  | some r => r.rdata
  | none => none

/-- `rd ADDR -> V` (R100). The spec gives no V when no response arrives (U12); the 0 here is then the model's (log 22,
DESIGN CHOICE), and no operation of the host takes it for a value: they read through `State.ask`, which fails. -/
def State.hostRead (s : State) (t : Target) : Word := (s.hostResponse t).getD 0

/-- A read that the host relies on: it fails when no response arrives (U12, log 22). The state stands as it is, because a
read has no side effect (R63); the response is not kept in it (log 19). -/
def State.ask (s : State) (t : Target) : Except HostError Word :=
  match s.hostResponse t with
  | none => .error .noResponse
  | some v => .ok v

/-- R100: the value `rdw REG` gives, the sum of v_k * 2^(32k) over the `nw` words. -/
def State.hostReadWords (s : State) (nw : Nat) (r : WReg) : Nat :=
  (List.range nw).foldl (fun acc k => acc + (s.hostRead (.wide r k)).toNat * 2 ^ (32 * k)) 0

/-- R100: `rdw REG` of a host that knows the block's NW. -/
def State.hostReadWide (s : State) (r : WReg) : Nat := s.hostReadWords s.cfg.nw r

/-- R253, R256, R200: the host reads STATUS and goes on when BUSY = 0; else it waits for the completion of the pending
command (R100, `wait`), whose first poll is the read that saw BUSY = 1. How it waits is the model's (log 19). -/
def State.awaitIdle (s : State) : Except HostError State := do
  let v ← s.ask .status
  if v.getLsbD 0 then .ok (s.play (wait 1)) else .ok s

/-- R253: a step of the host, "while BUSY = 0". -/
def State.whenIdle (s : State) (es : List Event) : Except HostError State := do
  let s ← s.awaitIdle
  return s.play es

/-- R65: a W-bit register that a block of this configuration has. -/
def WReg.present (c : Config) : WReg → Bool
  | .buf i => decide (i < c.nbuf)
  | .keyN => true
  | .keyE => true
  | .keyD => true
  | .iv => true
  | .prev => true

/-- R191, R100, R253: `wrw` while BUSY = 0, of a value below 2^W into a register of the block, by a host that knows W
and NBUF as `c`. -/
def State.hostWriteWide (c : Config) (s : State) (r : WReg) (v : Nat) : Except HostError State :=
  if v < 2 ^ c.w ∧ r.present c then s.whenIdle (wrw c r v) else .error .doesNotFit

/-- R210: the error kind of a hardware code; none for success. Codes 6 to 15 are never produced (R222). -/
def errorKind (code : Nat) : Option HostError :=
  if code = 0 then none
  else if code = 3 then some .blockSize
  else if code = 4 then some .keyUnsupported
  else if code = 5 then some .blockRange
  else some .programming

/-- R202: run a command while BUSY = 0, wait, read STATUS, and stop with the error kind of R210 if there is one. -/
def State.hostCommand (s : State) (i : Instr) : Except HostError State := do
  let s ← s.whenIdle (run i 0)
  let v ← s.ask .status
  match errorKind (bits v 7 4) with
  | none => .ok s
  | some e => .error e

/-- R191: loading a key pair, each word of KEY_N, KEY_E and KEY_D. -/
def State.loadKey (c : Config) (s : State) (k : KeyPair) : Except HostError State := do
  let s ← s.hostWriteWide c .keyN k.modulus
  let s ← s.hostWriteWide c .keyE k.publicExponent
  s.hostWriteWide c .keyD k.privateExponent

/-- R205: `validateBlockSize`. A size above 1023 is rejected without writing it (U18). -/
def State.validateBlockSize (c : Config) (s : State) (bs n : Nat) : Except HostError State := do
  if 1023 < bs then .error .blockSize
  else
    let s ← s.hostWriteWide c .keyN n
    let s ← s.whenIdle [wr .bsize (BitVec.ofNat 32 bs)]
    s.hostCommand .check

/-- R253, R30: W and NBUF as the host learns them from PARAM. -/
def State.hostConfig (s : State) : Except HostError Config := do
  let v ← s.ask .param
  return ⟨bits v 15 0, bits v 23 16⟩

/-- R253, step 1: while BUSY = 0, read ID and check it, and read PARAM to learn W and NBUF. -/
def State.discover (s : State) : Except HostError (Config × State) := do
  let s ← s.awaitIdle
  let v ← s.ask .id
  if v ≠ 0x52534131 then .error .wrongDevice
  else
    let c ← s.hostConfig
    return (c, s)

/-- R253, step 6: write all words of each BUF entry that a command will read. -/
def State.loadEntries (c : Config) : List (Nat × Nat) → State → Except HostError State
  | [], s => .ok s
  | (i, v) :: rest, s =>
    match s.hostWriteWide c (.buf i) v with
    | .ok t => State.loadEntries c rest t
    | .error e => .error e

/-- R203, R208, R209, R253 step 5: write the IV the host drew and initialize the chain. -/
def State.startChain (c : Config) (s : State) (iv : Nat) : Except HostError State := do
  let s ← s.hostWriteWide c .iv iv
  s.hostCommand .chainInit

/-- R253, steps 1 to 4: discover the block, load the key pair, write BSIZE, run CHECK and require ERRCODE = 0. The
host goes on with the configuration it read from PARAM. -/
def State.bootKey (s : State) (k : KeyPair) (bs : Nat) : Except HostError (Config × State) := do
  let (c, s) ← s.discover
  let s ← s.loadKey c k
  let s ← s.validateBlockSize c bs k.modulus
  return (c, s)

/-- R253: the boot steps in their order, each while BUSY = 0; `iv` when CBC is used (step 5), the BUF entries that a
command will read (step 6), and the word for IRQ_EN when the host writes one (step 7). -/
def State.boot (s : State) (k : KeyPair) (bs : Nat) (iv : Option Nat) (entries : List (Nat × Nat))
    (irqEn : Option Word) : Except HostError (Config × State) := do
  let (c, s) ← s.bootKey k bs
  let s ← match iv with
    | none => .ok s
    | some v => s.startChain c v
  let s ← State.loadEntries c entries s
  let s ← match irqEn with
    | none => .ok s
    | some v => s.whenIdle [wr .irqEn v]
  return (c, s)

/-- R206: a chunk as the entries BUF[j], BUF[j+1], ... -/
def numbered : Nat → List Nat → List (Nat × Nat)
  | _, [] => []
  | j, v :: rest => (j, v) :: numbered (j + 1) rest

/-- R206: write a chunk into BUF[j], BUF[j+1], ... -/
def State.loadBlocks (c : Config) (j : Nat) (blocks : List Nat) (s : State) : Except HostError State :=
  State.loadEntries c (numbered j blocks) s

/-- R206: read the first `k` entries back. -/
def State.readBlocks (c : Config) (s : State) (k : Nat) : List Nat :=
  (List.range k).map fun j => s.hostReadWords c.nw (.buf j)

/-- R201: one chunk: write it, run one sequence command over it, read the results back. -/
def State.runChunk (c : Config) (cmd : Nat → Nat → Instr) (blocks : List Nat) (s : State) :
    Except HostError (List Nat × State) := do
  let s ← State.loadBlocks c 0 blocks s
  let s ← s.hostCommand (cmd 0 blocks.length)
  return (s.readBlocks c blocks.length, s)

/-- R201: the chunks of a message in order; PREV carries a CBC chain from one to the next (R174). -/
def State.runChunks (c : Config) (cmd : Nat → Nat → Instr) :
    List (List Nat) → State → Except HostError (List Nat × State)
  | [], s => .ok ([], s)
  | blocks :: rest, s =>
    match s.runChunk c cmd blocks with
    | .error e => .error e
    | .ok (out, t) =>
      match State.runChunks c cmd rest t with
      | .error e => .error e
      | .ok (more, u) => .ok (out ++ more, u)

/-- R201: a whole message in chunks of at most NBUF blocks. The rule leaves the length of each chunk open: that every
chunk but the last has exactly NBUF blocks is the model's (log 23, DESIGN CHOICE). `State.runChunks` takes any chunks. -/
def State.runMessage (c : Config) (cmd : Nat → Nat → Instr) (blocks : List Nat) (s : State) :
    Except HostError (List Nat × State) :=
  State.runChunks c cmd (chunks c.nbuf blocks.length blocks) s

/-- R206: `encryptTextECB(text, e, n, blockSize)`, by a host that learnt W and NBUF as `c` when it booted (R253). -/
def encryptTextECB (c : Config) (text : List Char) (e n bs : Nat) (s : State) : Except HostError (List Nat × State) := do
  let s ← s.hostWriteWide c .keyN n
  let s ← s.hostWriteWide c .keyE e
  let s ← s.validateBlockSize c bs n
  let blocks ← textToBlocks text bs
  s.runMessage c .ecbEnc blocks

/-- R207: `decryptTextECB(cipherBlocks, d, n, blockSize)`. -/
def decryptTextECB (c : Config) (cipher : List Nat) (d n bs : Nat) (s : State) : Except HostError (List Char × State) := do
  let s ← s.hostWriteWide c .keyN n
  let s ← s.hostWriteWide c .keyD d
  let s ← s.validateBlockSize c bs n
  let (blocks, s) ← s.runMessage c .ecbDec cipher
  let text ← blocksToText blocks bs
  return (text, s)

/-- R208: `encryptTextCBC(text, e, n, blockSize)`, on the IV the host drew for this call from [0, 256^blockSize) (R203,
U15). The result begins with that IV. -/
def encryptTextCBC (c : Config) (text : List Char) (e n bs : Nat) (iv : Subtype (IvDraw bs)) (s : State) :
    Except HostError ((Nat × List Nat) × State) := do
  let s ← s.hostWriteWide c .keyN n
  let s ← s.hostWriteWide c .keyE e
  let s ← s.validateBlockSize c bs n
  let blocks ← textToBlocks text bs
  let s ← s.startChain c iv.val
  let (cipher, s) ← s.runMessage c .cbcEnc blocks
  return ((iv.val, cipher), s)

/-- R209: `decryptTextCBC(cipherBlocks, d, n, iv, blockSize)`. -/
def decryptTextCBC (c : Config) (cipher : List Nat) (d n iv bs : Nat) (s : State) : Except HostError (List Char × State) := do
  let s ← s.hostWriteWide c .keyN n
  let s ← s.hostWriteWide c .keyD d
  let s ← s.validateBlockSize c bs n
  let s ← s.startChain c iv
  let (blocks, s) ← s.runMessage c .cbcDec cipher
  let text ← blocksToText blocks bs
  return (text, s)

end Sys2Proof.Machine
end

