-- ==== Sys2Proof/Safety.lean ====
section
/-! DEFINITION. The terms claims are written in: the form of a state of the block (`State.Wf`), the mapped words and
legal transactions in the words of 20_memory.md R62 and R65, the ends of a command as record updates (60_exceptions.md
R223, R224), and the two CBC chains over a plain list of blocks (43_cbc.md). -/

namespace Sys2Proof.Machine

/-- The one form of the block buffer: NBUF entries, each below 2^W (R20, R23). -/
abbrev Buf.wf (cfg : Config) (b : List Nat) : Prop := b.length = cfg.nbuf ∧ ∀ v ∈ b, v < 2 ^ cfg.w

/-- R10: every W-bit register outside the buffer is below 2^W. -/
abbrev State.regsFit (s : State) : Prop :=
  s.keyN < 2 ^ s.cfg.w ∧ s.keyE < 2 ^ s.cfg.w ∧ s.keyD < 2 ^ s.cfg.w ∧ s.iv < 2 ^ s.cfg.w ∧ s.prev < 2 ^ s.cfg.w

/-- The status registers as the rules leave them: ERRCODE is at most 5 (R222, U10), INDEX is a buffer index and not 0
only after BLOCKRANGE (R226), and while BUSY = 1 the pending word is the word in CMD and DONE is 0 (R220, R32, R35). -/
abbrev State.statusOk (s : State) : Prop :=
  s.errcode.toNat ≤ 5 ∧ s.errIndex.toNat < s.cfg.nbuf ∧ (s.errIndex ≠ 0 → s.errcode = 5) ∧
    (s.pending = none ∨ (s.pending = some s.cmd ∧ s.done = false))

/-- R250, R251: while rst_n is low every register holds its reset value and nothing is pending. -/
abbrev State.resetOk (s : State) : Prop :=
  s.rstN = false →
    s.keyN = 0 ∧ s.keyE = 0 ∧ s.keyD = 0 ∧ s.iv = 0 ∧ s.prev = 0 ∧ s.bs = 0 ∧ s.cmd = 0 ∧ s.pending = none ∧
      s.done = false ∧ s.werr = false ∧ s.errcode = 0 ∧ s.errIndex = 0 ∧ s.doneIE = false ∧ s.werrIE = false

/-- The form of every state of the block: an allowed configuration (R7, R8), every register in its width, and the
status registers as the rules leave them. -/
abbrev State.Wf (s : State) : Prop :=
  s.cfg.Ok ∧ Buf.wf s.cfg s.buf ∧ s.regsFit ∧ s.statusOk ∧ s.resetOk

/-- R223 as a record update: the fields `complete()` writes. -/
abbrev State.okEnd (s : State) : State := { s with errcode := 0, errIndex := 0, done := true, pending := none }

/-- R224 as a record update: the fields `raise Error(code, index)` writes, the code as its number in R222. -/
abbrev State.errEnd (s : State) (code : BitVec 4) (index : Nat) : State :=
  { s with errcode := code, errIndex := BitVec.ofNat 8 index, done := true, pending := none }

/-- R110 in the words of the rule, on BSIZE.BS and KEY_N. -/
abbrev State.sizeValid (s : State) : Prop := 1 ≤ s.bs.toNat ∧ 8 * s.bs.toNat < bitLength s.keyN

/-- R65 in the words of its table: `a` is the byte address of a mapped word. -/
abbrev Mapped (cfg : Config) (a : Nat) : Prop :=
  a = 0x0000 ∨ a = 0x0004 ∨ a = 0x0008 ∨ a = 0x000C ∨ a = 0x0010 ∨ a = 0x0014 ∨ a = 0x0018 ∨
    (∃ k < cfg.nw, a = 0x1000 + 4 * k ∨ a = 0x1200 + 4 * k ∨ a = 0x1400 + 4 * k ∨ a = 0x1600 + 4 * k ∨ a = 0x1800 + 4 * k) ∨
    ∃ i < cfg.nbuf, ∃ k < cfg.nw, a = 0x8000 + 0x200 * i + 4 * k

/-- R62 in the words of the rule. -/
abbrev Transaction.Legal (cfg : Config) (tx : Transaction) : Prop :=
  tx.size = 2 ∧ tx.addr.toNat % 4 = 0 ∧ Mapped cfg tx.addr.toNat

/-- R65, R67: the target exists in the configuration: `k < NW`, and `i < NBUF` for a BUF entry. -/
abbrev Target.Exists (cfg : Config) : Target → Prop
  | .wide (.buf i) k => i < cfg.nbuf ∧ k < cfg.nw
  | .wide _ k => k < cfg.nw
  | _ => True

/-- The next event is the transaction `tx` of the host, presented while rst_n is high. -/
abbrev State.hostMoves (s : State) (tx : Transaction) (rest : List Event) : Prop :=
  s.rstN = true ∧ s.script = .bus tx :: rest

/-- The blocks of the run BUF[start..start+count-1]. -/
abbrev State.slice (s : State) (start count : Nat) : List Nat := (s.buf.drop start).take count

/-- R171 over a plain list of blocks, from the chaining value `p`: the blocks after the command, the chaining value
after the last finished block, and how many blocks were finished before one failed the range check. -/
def cbcEncChain (e n m : Nat) : Nat → List Nat → List Nat × Nat × Nat
  | p, [] => ([], p, 0)
  | p, b :: rest =>
    if n ≤ b ^^^ p then (b :: rest, p, 0)
    else
      let c := (b ^^^ p) ^ e % n
      let r := cbcEncChain e n m (c &&& m) rest
      (c :: r.1, r.2.1, r.2.2 + 1)

/-- R172 over a plain list of blocks, from the chaining value `p`: the recovered blocks and the final chaining value. -/
def cbcDecChain (d n m : Nat) : Nat → List Nat → List Nat × Nat
  | p, [] => ([], p)
  | p, c :: rest =>
    let r := cbcDecChain d n m (c &&& m) rest
    ((((c ^ d % n) &&& m) ^^^ p) :: r.1, r.2)

/-- R170: PREV after a CBC command that finished `k` blocks and left the chaining value `p`: unchanged if none. -/
abbrev State.prevAfter (s : State) (k p : Nat) : Nat := if k = 0 then s.prev else p

/-- The premises of R153 on the key: KEY_N = p*q for distinct primes, KEY_E * KEY_D = 1 modulo (p-1)(q-1). -/
abbrev State.rsaKey (s : State) (p q : Nat) : Prop :=
  Nat.Prime p ∧ Nat.Prime q ∧ p ≠ q ∧ s.keyN = p * q ∧ s.keyE * s.keyD % ((p - 1) * (q - 1)) = 1 % ((p - 1) * (q - 1))

/-- R94 in the words of the rule: the fields make the word ILLEGAL. -/
abbrev IllegalFields (op x rsv a b c : Nat) : Prop :=
  op ∈ [0x3, 0xA, 0xB, 0xC, 0xD, 0xE, 0xF] ∨ rsv ≠ 0 ∨ (op ≠ 0x8 ∧ x ≠ 0) ∨
    (op ∈ [0x0, 0x1, 0x2] ∧ (a ≠ 0 ∨ b ≠ 0 ∨ c ≠ 0)) ∨ (op ∈ [0x4, 0x5, 0x6, 0x7, 0x8] ∧ c ≠ 0)

/-- R93: the command of a row of the opcode map and its fields; no row has another OP. -/
def rowCommand (op x a b c : Nat) : Option Instr :=
  match op with
  | 0x0 => some .nop
  | 0x1 => some .check
  | 0x2 => some .chainInit
  | 0x4 => some (.ecbEnc a b)
  | 0x5 => some (.ecbDec a b)
  | 0x6 => some (.cbcEnc a b)
  | 0x7 => some (.cbcDec a b)
  | 0x8 => some (.modexp (if x = 1 then .keyD else .keyE) a b)
  | 0x9 => some (.montmul a b c)
  | _ => none

end Sys2Proof.Machine

namespace Sys2Proof

open Sys2Proof.Machine

/-- R222: the codes a command can leave in ERRCODE. -/
def Instr.codes : Instr → List (BitVec 4)
  | .nop => [0]
  | .check => [0, 3]
  | .chainInit => [0, 3]
  | .ecbEnc _ _ => [0, 2, 3, 4, 5]
  | .ecbDec _ _ => [0, 2, 3, 4]
  | .cbcEnc _ _ => [0, 2, 3, 4, 5]
  | .cbcDec _ _ => [0, 2, 3, 4]
  | .modexp .keyE _ _ => [0, 2, 4, 5]
  | .modexp .keyD _ _ => [0, 2, 4]
  | .montmul _ _ _ => [0, 2, 4, 5]

/-- The BUF indices whose values the command checks against the modulus (R132). -/
def Instr.checked (i : Instr) (j : Nat) : Prop :=
  match i with
  | .ecbEnc start count => start ≤ j ∧ j < start + count
  | .cbcEnc start count => start ≤ j ∧ j < start + count
  | .modexp .keyE src _ => j = src
  | .montmul srcA srcB _ => j = srcA ∨ j = srcB
  | .nop => False
  | .check => False
  | .chainInit => False
  | .ecbDec _ _ => False
  | .cbcDec _ _ => False
  | .modexp .keyD _ _ => False

/-- The value the range check compares at index `j` (R132), read in the state after the command: that entry is
unchanged by an error, and PREV then holds the chaining value after block `j - 1` (R171). -/
def Instr.checkedInput (i : Instr) (t : State) (j : Nat) : Nat :=
  match i with
  | .cbcEnc _ _ => t.bufAt j ^^^ (t.prev &&& mask t.bs.toNat)
  | .nop => t.bufAt j
  | .check => t.bufAt j
  | .chainInit => t.bufAt j
  | .ecbEnc _ _ => t.bufAt j
  | .ecbDec _ _ => t.bufAt j
  | .cbcDec _ _ => t.bufAt j
  | .modexp _ _ _ => t.bufAt j
  | .montmul _ _ _ => t.bufAt j

/-- The BUF indices a command may write (R150, R151, R171, R172, R133, R134). -/
def Instr.writes (i : Instr) (j : Nat) : Prop :=
  match i with
  | .nop => False
  | .check => False
  | .chainInit => False
  | .ecbEnc start count => start ≤ j ∧ j < start + count
  | .ecbDec start count => start ≤ j ∧ j < start + count
  | .cbcEnc start count => start ≤ j ∧ j < start + count
  | .cbcDec start count => start ≤ j ∧ j < start + count
  | .modexp _ _ dst => j = dst
  | .montmul _ _ dst => j = dst

/-- The commands that may write PREV (R28, R174). -/
def Instr.writesPrev : Instr → Bool
  | .chainInit => true
  | .cbcEnc _ _ => true
  | .cbcDec _ _ => true
  | .nop => false
  | .check => false
  | .ecbEnc _ _ => false
  | .ecbDec _ _ => false
  | .modexp _ _ _ => false
  | .montmul _ _ _ => false

end Sys2Proof
end

