-- ==== Sys2Proof/Certificates/Slice0/Obligations.lean ====
section
/-! DEFINITION. The statements for the provers, from the numbered rules of spec/. OBLIGATIONS.json lists them. A step
of the host or of reset is stated on `step`; a command on `exec`; the step that runs a decoded command is
`StepRunsDecodedCommand`. -/

open Sys2Proof Sys2Proof.Machine

/-! ## Encoding: 30_encoding.md -/

/-- R99: words of the assembler table, taken from the vectors of 95_test_vectors.md, and words that are ILLEGAL. -/
def Obligations.DecodesSpecWords : Prop :=
  decode 0x00000000 = .ok .nop ∧ decode 0x00000001 = .ok .check ∧ decode 0x00000002 = .ok .chainInit ∧
    decode 0x00030004 = .ok (.ecbEnc 0 3) ∧ decode 0x00010005 = .ok (.ecbDec 0 1) ∧
    decode 0x00010206 = .ok (.cbcEnc 2 1) ∧ decode 0x00030007 = .ok (.cbcDec 0 3) ∧
    decode 0x00060508 = .ok (.modexp .keyE 5 6) ∧ decode 0x00060518 = .ok (.modexp .keyD 5 6) ∧
    decode 0x08070009 = .ok (.montmul 0 7 8) ∧ decode 0x00000003 = .error .reservedOpcode ∧
    decode 0x00000024 = .error .reservedBits ∧ decode 0x00000011 = .error .selectNotZero ∧
    decode 0x00000100 = .error .operandNotZero ∧ decode 0x01010004 = .error .destNotZero

/-- R91, R99: no bit of an encoding is dropped: decoding the word of a well-formed command gives it back. -/
def Obligations.EncodeThenDecode : Prop := ∀ i : Instr, i.wellFormed = true → decode (encode i) = .ok i

/-- R96: "every bit of every command word is either used or checked": a word that decodes is the word of its command. -/
def Obligations.DecodeThenEncode : Prop :=
  ∀ (v : Word) (i : Instr), decode v = .ok i → encode i = v ∧ i.wellFormed = true

/-- R94: Decode as the rule's pseudocode gives it, and what ILLEGAL does. -/
def Obligations.DecodeFollowsR94 : Prop :=
  ∀ v : Word,
    (IllegalFields (bits v 3 0) (bits v 4 4) (bits v 7 5) (bits v 15 8) (bits v 23 16) (bits v 31 24) →
      (∃ e, decode v = .error e) ∧
        ∀ s : State, s.rstN = true → s.pending = some v → engineTurn s = .next (s.errEnd 1 0)) ∧
    (¬IllegalFields (bits v 3 0) (bits v 4 4) (bits v 7 5) (bits v 15 8) (bits v 23 16) (bits v 31 24) →
      ∃ i, decode v = .ok i ∧
        rowCommand (bits v 3 0) (bits v 4 4) (bits v 15 8) (bits v 23 16) (bits v 31 24) = some i)

/-- opcode_table.json: a word has a row's match value under the row's mask exactly when it decodes to that row. -/
def Obligations.OpcodeTableRows : Prop :=
  ∀ v : Word,
    (v &&& 0xFFFFFFFF = 0x00000000 ↔ decode v = .ok .nop) ∧
    (v &&& 0xFFFFFFFF = 0x00000001 ↔ decode v = .ok .check) ∧
    (v &&& 0xFFFFFFFF = 0x00000002 ↔ decode v = .ok .chainInit) ∧
    (v &&& 0xFF0000FF = 0x00000004 ↔ ∃ a b, decode v = .ok (.ecbEnc a b)) ∧
    (v &&& 0xFF0000FF = 0x00000005 ↔ ∃ a b, decode v = .ok (.ecbDec a b)) ∧
    (v &&& 0xFF0000FF = 0x00000006 ↔ ∃ a b, decode v = .ok (.cbcEnc a b)) ∧
    (v &&& 0xFF0000FF = 0x00000007 ↔ ∃ a b, decode v = .ok (.cbcDec a b)) ∧
    (v &&& 0xFF0000EF = 0x00000008 ↔ ∃ x a b, decode v = .ok (.modexp x a b)) ∧
    (v &&& 0x000000FF = 0x00000009 ↔ ∃ a b c, decode v = .ok (.montmul a b c))

/-- R95: a reserved opcode is accepted and completes with ILLEGAL and ERRINFO = 0, and changes nothing else. -/
def Obligations.ReservedOpcodeIsIllegal : Prop :=
  ∀ (s : State) (v : Word) (rest : List Event),
    s.hostMoves ⟨true, 0x000C, 2, v⟩ (.engine :: rest) → s.pending = none →
    bits v 3 0 ∈ [0x3, 0xA, 0xB, 0xC, 0xD, 0xE, 0xF] →
    ∃ t d, step s = .next t ∧ t.pending = some v ∧
      step t = .next { s with
        cmd := v, errcode := 1, errIndex := 0, done := true, pending := none, script := rest, resp := some ⟨d, false⟩ }

/-! ## The register bus: 20_memory.md -/

/-- R220: acceptance of a CMD write while BUSY = 0, and the drop of one while BUSY = 1. -/
def Obligations.CmdWriteAccepts : Prop :=
  ∀ (s : State) (v : Word) (rest : List Event), s.hostMoves ⟨true, 0x000C, 2, v⟩ rest →
    (s.pending = none →
      ∃ d, step s = .next { s with
        cmd := v, pending := some v, done := false, script := rest, resp := some ⟨d, false⟩ }) ∧
    (s.pending.isSome = true →
      ∃ d, step s = .next { s with werr := true, script := rest, resp := some ⟨d, false⟩ })

/-- R80: legal writes while BUSY = 1. -/
def Obligations.WritesWhileBusy : Prop :=
  ∀ (s : State) (a : Addr) (v : Word) (rest : List Event),
    s.cfg.Ok → s.pending.isSome = true → s.hostMoves ⟨true, a, 2, v⟩ rest →
    Transaction.Legal s.cfg ⟨true, a, 2, v⟩ →
    ∃ d, step s = .next
      (if a = 0x0010 then
        { s with
          done := s.done && !v.getLsbD 1, werr := s.werr && !v.getLsbD 2, script := rest, resp := some ⟨d, false⟩ }
      else if a = 0x0018 then
        { s with doneIE := v.getLsbD 0, werrIE := v.getLsbD 1, script := rest, resp := some ⟨d, false⟩ }
      else if a = 0x0000 ∨ a = 0x0004 ∨ a = 0x0014 then { s with script := rest, resp := some ⟨d, false⟩ }
      else { s with werr := true, script := rest, resp := some ⟨d, false⟩ })

/-- R81: words of PREV and BUF read as 0 while BUSY = 1 and as their contents otherwise; words of the key registers and
of IV always read as their contents. -/
def Obligations.ReadsWhileBusy : Prop :=
  ∀ (s : State) (r : WReg) (k : Nat) (d : Word) (rest : List Event),
    s.cfg.Ok → Target.Exists s.cfg (.wide r k) →
    s.hostMoves ⟨false, BitVec.ofNat 16 (Target.address (.wide r k)), 2, d⟩ rest →
    ∃ x : Word,
      step s = .next { s with script := rest, resp := some ⟨some x, false⟩ } ∧
      (s.pending.isSome = true ∧ (r = .prev ∨ ∃ i, r = .buf i) → x = 0) ∧
      (¬(s.pending.isSome = true ∧ (r = .prev ∨ ∃ i, r = .buf i)) →
        x.toNat = s.wide r / 2 ^ (32 * k) % 2 ^ 32)

/-- R62: legal transactions complete with err = 0; illegal ones with err = 1 and rdata = 0, and change no state. -/
def Obligations.BusErrors : Prop :=
  ∀ (s : State) (tx : Transaction) (rest : List Event), s.cfg.Ok → s.hostMoves tx rest →
    (tx.Legal s.cfg → ∃ t d, step s = .next t ∧ t.resp = some ⟨d, false⟩) ∧
    (¬tx.Legal s.cfg → step s = .next { s with script := rest, resp := some ⟨some 0, true⟩ })

/-- R63: "A read has no side effect on any state." -/
def Obligations.ReadsChangeNothing : Prop :=
  ∀ (s : State) (tx : Transaction) (rest : List Event), s.hostMoves tx rest → tx.we = false →
    ∃ r, step s = .next { s with script := rest, resp := some r }

/-- R65, R67: the address map: the mapped words are exactly those of the table, each at its address. -/
def Obligations.AddressMapIsExact : Prop :=
  ∀ (cfg : Config) (a : Addr) (t : Target), cfg.Ok →
    (addrTarget cfg a = some t ↔ t.Exists cfg ∧ a.toNat = t.address)

/-- R29 to R33, R38, R39: what the 32-bit registers read as, reserved bits as 0. -/
def Obligations.ControlRegisterReads : Prop :=
  ∀ (s : State) (t : Target) (d : Word) (rest : List Event), s.cfg.Ok →
    s.hostMoves ⟨false, BitVec.ofNat 16 t.address, 2, d⟩ rest → (∀ r k, t ≠ .wide r k) →
    ∃ x : Word,
      step s = .next { s with script := rest, resp := some ⟨some x, false⟩ } ∧
      (t = .id → x = 0x52534131) ∧
      (t = .param → x.toNat = 1 * 2 ^ 24 + s.cfg.nbuf * 2 ^ 16 + s.cfg.w) ∧
      (t = .bsize → x.toNat = s.bs.toNat) ∧
      (t = .cmd → x = s.cmd) ∧
      (t = .status →
        x.toNat = s.pending.isSome.toNat + 2 * s.done.toNat + 4 * s.werr.toNat + 16 * s.errcode.toNat) ∧
      (t = .errinfo → x.toNat = s.errIndex.toNat) ∧
      (t = .irqEn → x.toNat = s.doneIE.toNat + 2 * s.werrIE.toNat)

/-- R68, R31, R35, R36, R39: writes to the 32-bit registers other than CMD while BUSY = 0: the writable fields alone. -/
def Obligations.ControlRegisterWrites : Prop :=
  ∀ (s : State) (v : Word) (rest : List Event), s.pending = none →
    (s.hostMoves ⟨true, 0x0008, 2, v⟩ rest →
      ∃ t d, step s = .next t ∧ t.bs.toNat = v.toNat % 1024 ∧
        t = { s with bs := t.bs, script := rest, resp := some ⟨d, false⟩ }) ∧
    (s.hostMoves ⟨true, 0x0010, 2, v⟩ rest →
      ∃ d, step s = .next { s with
        done := s.done && !v.getLsbD 1, werr := s.werr && !v.getLsbD 2, script := rest, resp := some ⟨d, false⟩ }) ∧
    (s.hostMoves ⟨true, 0x0018, 2, v⟩ rest →
      ∃ d, step s = .next { s with
        doneIE := v.getLsbD 0, werrIE := v.getLsbD 1, script := rest, resp := some ⟨d, false⟩ }) ∧
    (∀ a : Addr, a = 0x0000 ∨ a = 0x0004 ∨ a = 0x0014 → s.hostMoves ⟨true, a, 2, v⟩ rest →
      ∃ d, step s = .next { s with script := rest, resp := some ⟨d, false⟩ })

/-- R66: a read of word k returns bits 32k+31..32k; a write of word k replaces them and keeps every other bit, every
other wide register and all other state. -/
def Obligations.WideRegisterWords : Prop :=
  ∀ (s : State) (r : WReg) (k : Nat) (v : Word) (rest : List Event),
    s.Wf → s.pending = none → Target.Exists s.cfg (.wide r k) →
    (s.hostMoves ⟨false, BitVec.ofNat 16 (Target.address (.wide r k)), 2, v⟩ rest →
      ∃ x : Word,
        step s = .next { s with script := rest, resp := some ⟨some x, false⟩ } ∧
        x.toNat = s.wide r / 2 ^ (32 * k) % 2 ^ 32) ∧
    (s.hostMoves ⟨true, BitVec.ofNat 16 (Target.address (.wide r k)), 2, v⟩ rest →
      ∃ t d, step s = .next t ∧
        t.wide r = s.wide r - s.wide r / 2 ^ (32 * k) % 2 ^ 32 * 2 ^ (32 * k) + v.toNat * 2 ^ (32 * k) ∧
        t.wide r / 2 ^ (32 * k) % 2 ^ 32 = v.toNat ∧
        (∀ j, j ≠ k → t.wide r / 2 ^ (32 * j) % 2 ^ 32 = s.wide r / 2 ^ (32 * j) % 2 ^ 32) ∧
        (∀ r', r' ≠ r → t.wide r' = s.wide r') ∧
        t = { s with
          keyN := t.keyN, keyE := t.keyE, keyD := t.keyD, iv := t.iv, prev := t.prev, buf := t.buf
          script := rest, resp := some ⟨d, false⟩ })

/-- R81: "no intermediate state of a command can be observed": while BUSY = 1 no transaction tells BUF or PREV. -/
def Obligations.BusyHidesOperands : Prop :=
  ∀ (s : State) (tx : Transaction) (rest : List Event) (b : List Nat) (p : Nat),
    s.pending.isSome = true → s.script = .bus tx :: rest →
    ∃ t, step s = .next t ∧ t.buf = s.buf ∧ t.prev = s.prev ∧
      step { s with buf := b, prev := p } = .next { t with buf := b, prev := p }

/-- R100: `wrw REG, V` leaves V in the register and every other wide register as it was, and `rdw` reads it back. -/
def Obligations.WholeRegisterWrite : Prop :=
  ∀ (s : State) (r : WReg) (v : Nat),
    s.Wf → s.rstN = true → s.pending = none → (∀ i, r = .buf i → i < s.cfg.nbuf) → v < 2 ^ s.cfg.w →
    (s.play (wrw s.cfg r v)).wide r = v ∧
      (∀ r', r' ≠ r → (s.play (wrw s.cfg r v)).wide r' = s.wide r') ∧
      (s.play (wrw s.cfg r v)).hostReadWide r = v

/-! ## Control commands: 40_control.md -/

/-- R111: NOP completes and does nothing else. -/
def Obligations.NopCompletes : Prop := ∀ s : State, exec .nop s = .next s.okEnd

/-- R112: CHECK reports whether the block size is valid and writes no operand state. -/
def Obligations.CheckReportsBlockSize : Prop :=
  ∀ s : State,
    (s.sizeValid → exec .check s = .next s.okEnd) ∧ (¬s.sizeValid → exec .check s = .next (s.errEnd 3 0))

/-- R113: CHAIN_INIT writes the low 8*BS bits of IV to PREV, or reports BLOCKSIZE and leaves PREV. -/
def Obligations.ChainInitMasksIv : Prop :=
  ∀ s : State,
    (s.sizeValid → exec .chainInit s = .next { s.okEnd with prev := s.iv % 2 ^ (8 * s.bs.toNat) }) ∧
    (¬s.sizeValid → exec .chainInit s = .next (s.errEnd 3 0))

/-! ## The engine: 41_engine.md -/

/-- R133: MODEXP writes BUF[SRC]^X' mod KEY_N to BUF[DST] and changes nothing else but its completion fields. -/
def Obligations.ModexpComputesPower : Prop :=
  ∀ (s : State) (x : ExpSel) (src dst : Nat), s.Wf → src < s.cfg.nbuf → dst < s.cfg.nbuf → s.keyN % 2 = 1 →
    (x = .keyE → s.bufAt src < s.keyN) →
    ∃ t, exec (.modexp x src dst) s = .next t ∧
      t.bufAt dst = s.bufAt src ^ (match x with | .keyE => s.keyE | .keyD => s.keyD) % s.keyN ∧
      (∀ j, j ≠ dst → t.bufAt j = s.bufAt j) ∧ t = { s.okEnd with buf := t.buf }

/-- R133, R225: where MODEXP fails, in the order INDEX, MODULUS, BLOCKRANGE; BUF is then unchanged. -/
def Obligations.ModexpErrors : Prop :=
  ∀ (s : State) (x : ExpSel) (src dst : Nat),
    (s.cfg.nbuf ≤ src ∨ s.cfg.nbuf ≤ dst → exec (.modexp x src dst) s = .next (s.errEnd 2 0)) ∧
    (src < s.cfg.nbuf ∧ dst < s.cfg.nbuf ∧ s.keyN % 2 = 0 → exec (.modexp x src dst) s = .next (s.errEnd 4 0)) ∧
    (src < s.cfg.nbuf ∧ dst < s.cfg.nbuf ∧ s.keyN % 2 = 1 ∧ x = .keyE ∧ s.keyN ≤ s.bufAt src →
      exec (.modexp x src dst) s = .next (s.errEnd 5 src))

/-- R134, R135: MONTMUL writes the residue whose product with 2^W is BUF[SRCA] * BUF[SRCB] modulo KEY_N. -/
def Obligations.MontmulComputesProduct : Prop :=
  ∀ (s : State) (srcA srcB dst : Nat), s.Wf → srcA < s.cfg.nbuf → srcB < s.cfg.nbuf → dst < s.cfg.nbuf →
    s.keyN % 2 = 1 → s.bufAt srcA < s.keyN → s.bufAt srcB < s.keyN →
    ∃ t, exec (.montmul srcA srcB dst) s = .next t ∧ t.bufAt dst < s.keyN ∧
      t.bufAt dst * 2 ^ s.cfg.w % s.keyN = s.bufAt srcA * s.bufAt srcB % s.keyN ∧
      (∀ j, j ≠ dst → t.bufAt j = s.bufAt j) ∧ t = { s.okEnd with buf := t.buf }

/-- R134, R225: where MONTMUL fails: INDEX, MODULUS, BLOCKRANGE on SRCA, then on SRCB; BUF is then unchanged. -/
def Obligations.MontmulErrors : Prop :=
  ∀ (s : State) (srcA srcB dst : Nat),
    (s.cfg.nbuf ≤ srcA ∨ s.cfg.nbuf ≤ srcB ∨ s.cfg.nbuf ≤ dst →
      exec (.montmul srcA srcB dst) s = .next (s.errEnd 2 0)) ∧
    (srcA < s.cfg.nbuf ∧ srcB < s.cfg.nbuf ∧ dst < s.cfg.nbuf →
      (s.keyN % 2 = 0 → exec (.montmul srcA srcB dst) s = .next (s.errEnd 4 0)) ∧
      (s.keyN % 2 = 1 ∧ s.keyN ≤ s.bufAt srcA → exec (.montmul srcA srcB dst) s = .next (s.errEnd 5 srcA)) ∧
      (s.keyN % 2 = 1 ∧ s.bufAt srcA < s.keyN ∧ s.keyN ≤ s.bufAt srcB →
        exec (.montmul srcA srcB dst) s = .next (s.errEnd 5 srcB)))

/-- R135: for odd n there is exactly one Rinv, and MonPro is the product by it. -/
def Obligations.MonProIsProductByInverse : Prop :=
  ∀ w n : Nat, n % 2 = 1 →
    ∃ rinv, (rinv < n ∧ 2 ^ w * rinv % n = 1 % n) ∧
      (∀ r, r < n → 2 ^ w * r % n = 1 % n → r = rinv) ∧
      ∀ a b, a < n → b < n → monPro w a b n = a * b * rinv % n ∧ monPro w a b n < n

/-- R12: bitLength. -/
def Obligations.BitLengthIsUnique : Prop :=
  bitLength 0 = 0 ∧ ∀ v k : Nat, 0 < v → (bitLength v = k ↔ 1 ≤ k ∧ 2 ^ (k - 1) ≤ v ∧ v < 2 ^ k)

/-- R110: the consequences of a valid block size: KEY_N >= 2^(8*bs) >= 256, the mask is below KEY_N, and 8*bs < W. -/
def Obligations.ValidSizeBoundsMask : Prop :=
  ∀ s : State, s.Wf → s.sizeValid →
    2 ^ (8 * s.bs.toNat) ≤ s.keyN ∧ 256 ≤ s.keyN ∧ 2 ^ (8 * s.bs.toNat) - 1 < s.keyN ∧ 8 * s.bs.toNat < s.cfg.w

/-- R137: the word-serial algorithm of `montgomery_mult` computes MonPro. -/
def Obligations.MontgomeryMultRefinesMonPro : Prop :=
  ∀ w a b n : Nat, w % 32 = 0 → n % 2 = 1 → n < 2 ^ w → a < n → b < n → montgomeryMult w a b n = monPro w a b n

/-- R136: the Montgomery-domain binary exponentiation of `modexp_pipeline` computes v^x mod n. -/
def Obligations.ModexpPipelineRefinesPower : Prop :=
  ∀ w v x n : Nat, w % 32 = 0 → n % 2 = 1 → n < 2 ^ w → modexpPipeline w v x n = v ^ x % n

/-! ## The sequence commands: 42_ecb.md, 43_cbc.md, 60_exceptions.md -/

/-- R225: the checks of a sequence command in their order: INDEX, BLOCKSIZE, MODULUS; nothing else is written. -/
def Obligations.SequenceChecksInOrder : Prop :=
  ∀ (s : State) (start count : Nat) (i : Instr),
    i ∈ [Instr.ecbEnc start count, .ecbDec start count, .cbcEnc start count, .cbcDec start count] →
    (s.cfg.nbuf < start + count → exec i s = .next (s.errEnd 2 0)) ∧
    (start + count ≤ s.cfg.nbuf → ¬s.sizeValid → exec i s = .next (s.errEnd 3 0)) ∧
    (start + count ≤ s.cfg.nbuf → s.sizeValid → s.keyN % 2 = 0 → exec i s = .next (s.errEnd 4 0))

/-- R150, R170, D23: an empty run with valid START, BSIZE and KEY_N completes and changes nothing; PREV is not masked. -/
def Obligations.EmptyRunChangesNothing : Prop :=
  ∀ (s : State) (start : Nat) (i : Instr),
    i ∈ [Instr.ecbEnc start 0, .ecbDec start 0, .cbcEnc start 0, .cbcDec start 0] →
    start ≤ s.cfg.nbuf → s.sizeValid → s.keyN % 2 = 1 → exec i s = .next s.okEnd

/-- R150: ECB_ENC over a run whose blocks are all below KEY_N. -/
def Obligations.EcbEncEncryptsRun : Prop :=
  ∀ (s : State) (start count : Nat), s.Wf → start + count ≤ s.cfg.nbuf → s.sizeValid → s.keyN % 2 = 1 →
    (∀ i, start ≤ i → i < start + count → s.bufAt i < s.keyN) →
    ∃ t, exec (.ecbEnc start count) s = .next t ∧
      (∀ i, t.bufAt i = if start ≤ i ∧ i < start + count then s.bufAt i ^ s.keyE % s.keyN else s.bufAt i) ∧
      t = { s.okEnd with buf := t.buf }

/-- R150: ECB_ENC stops with BLOCKRANGE at the first block j that is not below KEY_N; the blocks before it hold their
ciphertext and the others are unchanged. -/
def Obligations.EcbEncStopsAtRangeError : Prop :=
  ∀ (s : State) (start count j : Nat), s.Wf → start + count ≤ s.cfg.nbuf → s.sizeValid → s.keyN % 2 = 1 →
    start ≤ j → j < start + count → (∀ i, start ≤ i → i < j → s.bufAt i < s.keyN) → s.keyN ≤ s.bufAt j →
    ∃ t, exec (.ecbEnc start count) s = .next t ∧
      (∀ i, t.bufAt i = if start ≤ i ∧ i < j then s.bufAt i ^ s.keyE % s.keyN else s.bufAt i) ∧
      t = { s.errEnd 5 j with buf := t.buf }

/-- R151: ECB_DEC over a run; there is no range check. -/
def Obligations.EcbDecDecryptsRun : Prop :=
  ∀ (s : State) (start count : Nat), s.Wf → start + count ≤ s.cfg.nbuf → s.sizeValid → s.keyN % 2 = 1 →
    ∃ t, exec (.ecbDec start count) s = .next t ∧
      (∀ i, t.bufAt i = if start ≤ i ∧ i < start + count then s.bufAt i ^ s.keyD % s.keyN else s.bufAt i) ∧
      t = { s.okEnd with buf := t.buf }

/-- R171: CBC_ENC over a run in which every mixed value is below KEY_N. -/
def Obligations.CbcEncEncryptsRun : Prop :=
  ∀ (s : State) (start count : Nat), s.Wf → start + count ≤ s.cfg.nbuf → s.sizeValid → s.keyN % 2 = 1 →
    (cbcEncChain s.keyE s.keyN (mask s.bs.toNat) (s.prev &&& mask s.bs.toNat) (s.slice start count)).2.2 = count →
    exec (.cbcEnc start count) s = .next { s.okEnd with
      buf := s.buf.take start ++
        (cbcEncChain s.keyE s.keyN (mask s.bs.toNat) (s.prev &&& mask s.bs.toNat) (s.slice start count)).1 ++
        s.buf.drop (start + count)
      prev := s.prevAfter count
        (cbcEncChain s.keyE s.keyN (mask s.bs.toNat) (s.prev &&& mask s.bs.toNat) (s.slice start count)).2.1 }

/-- R171, R170: CBC_ENC stops with BLOCKRANGE after k finished blocks: they hold ciphertext, the others are unchanged,
and PREV holds the chaining value after the last finished block, or its old value if there is none. -/
def Obligations.CbcEncStopsAtRangeError : Prop :=
  ∀ (s : State) (start count k : Nat), s.Wf → start + count ≤ s.cfg.nbuf → s.sizeValid → s.keyN % 2 = 1 →
    (cbcEncChain s.keyE s.keyN (mask s.bs.toNat) (s.prev &&& mask s.bs.toNat) (s.slice start count)).2.2 = k →
    k < count →
    exec (.cbcEnc start count) s = .next { s.errEnd 5 (start + k) with
      buf := s.buf.take start ++
        (cbcEncChain s.keyE s.keyN (mask s.bs.toNat) (s.prev &&& mask s.bs.toNat) (s.slice start count)).1 ++
        s.buf.drop (start + count)
      prev := s.prevAfter k
        (cbcEncChain s.keyE s.keyN (mask s.bs.toNat) (s.prev &&& mask s.bs.toNat) (s.slice start count)).2.1 }

/-- R171: "If every m in the run is <= mask(bs), BLOCKRANGE cannot occur". -/
def Obligations.CbcEncInRangePlaintext : Prop :=
  ∀ (s t : State) (start count : Nat), s.Wf →
    (∀ i, start ≤ i → i < start + count → s.bufAt i ≤ mask s.bs.toNat) →
    exec (.cbcEnc start count) s = .next t → t.errcode ≠ 5

/-- R172: CBC_DEC over a run; the chaining value is the ciphertext; there is no range check. -/
def Obligations.CbcDecDecryptsRun : Prop :=
  ∀ (s : State) (start count : Nat), s.Wf → start + count ≤ s.cfg.nbuf → s.sizeValid → s.keyN % 2 = 1 →
    exec (.cbcDec start count) s = .next { s.okEnd with
      buf := s.buf.take start ++
        (cbcDecChain s.keyD s.keyN (mask s.bs.toNat) (s.prev &&& mask s.bs.toNat) (s.slice start count)).1 ++
        s.buf.drop (start + count)
      prev := s.prevAfter count
        (cbcDecChain s.keyD s.keyN (mask s.bs.toNat) (s.prev &&& mask s.bs.toNat) (s.slice start count)).2 }

/-- R152: equal plaintext blocks under equal keys give equal ciphertext blocks, whatever their positions. -/
def Obligations.EcbEncIsDeterministic : Prop :=
  ∀ (s1 s2 t1 t2 : State) (start1 count1 start2 count2 i j : Nat), s1.Wf → s2.Wf →
    s1.keyN = s2.keyN → s1.keyE = s2.keyE →
    exec (.ecbEnc start1 count1) s1 = .next t1 → t1.errcode = 0 →
    exec (.ecbEnc start2 count2) s2 = .next t2 → t2.errcode = 0 →
    start1 ≤ i → i < start1 + count1 → start2 ≤ j → j < start2 + count2 →
    s1.bufAt i = s2.bufAt j → t1.bufAt i = t2.bufAt j

/-- R153: the ECB round trip restores every entry. -/
def Obligations.EcbRoundTrip : Prop :=
  ∀ (s : State) (p q start count : Nat), s.Wf → s.rsaKey p q → s.sizeValid → start + count ≤ s.cfg.nbuf →
    (∀ i, start ≤ i → i < start + count → s.bufAt i < s.keyN) →
    ∃ t u, exec (.ecbEnc start count) s = .next t ∧ exec (.ecbDec start count) t = .next u ∧ u.buf = s.buf

/-- R173: the CBC round trip from the same PREV restores every entry and leaves the same final PREV; a block above the
mask is not restored. -/
def Obligations.CbcRoundTrip : Prop :=
  (∀ (s : State) (p q start count : Nat), s.Wf → s.rsaKey p q → s.sizeValid → start + count ≤ s.cfg.nbuf →
    (∀ i, start ≤ i → i < start + count → s.bufAt i ≤ mask s.bs.toNat) →
    ∃ t u, exec (.cbcEnc start count) s = .next t ∧ exec (.cbcDec start count) { t with prev := s.prev } = .next u ∧
      u.buf = s.buf ∧ u.prev = t.prev) ∧
  ∀ (s t u : State) (start count i : Nat), s.Wf → start ≤ i → i < start + count → mask s.bs.toNat < s.bufAt i →
    exec (.cbcEnc start count) s = .next t → t.errcode = 0 →
    exec (.cbcDec start count) { t with prev := s.prev } = .next u → u.bufAt i ≠ s.bufAt i

/-- R174, R201: two CBC commands compute one chain over the blocks of both runs, in that order, and leave its final
chaining value in PREV. The second command starts from any state that keeps the configuration, the keys, the block size
and PREV of the first one's end: BUF may have been reloaded, into the same entries too. -/
def Obligations.ChainAcrossCommands : Prop :=
  ∀ (s t t' u : State) (a k b l : Nat), s.Wf → t'.Wf →
    t'.cfg = t.cfg → t'.keyN = t.keyN → t'.keyE = t.keyE → t'.keyD = t.keyD → t'.bs = t.bs → t'.prev = t.prev →
    (exec (.cbcEnc a k) s = .next t → t.errcode = 0 → exec (.cbcEnc b l) t' = .next u → u.errcode = 0 →
      t.slice a k ++ u.slice b l =
          (cbcEncChain s.keyE s.keyN (mask s.bs.toNat) (s.prev &&& mask s.bs.toNat) (s.slice a k ++ t'.slice b l)).1 ∧
        u.prev = s.prevAfter (k + l)
          (cbcEncChain s.keyE s.keyN (mask s.bs.toNat) (s.prev &&& mask s.bs.toNat) (s.slice a k ++ t'.slice b l)).2.1) ∧
    (exec (.cbcDec a k) s = .next t → t.errcode = 0 → exec (.cbcDec b l) t' = .next u → u.errcode = 0 →
      t.slice a k ++ u.slice b l =
          (cbcDecChain s.keyD s.keyN (mask s.bs.toNat) (s.prev &&& mask s.bs.toNat) (s.slice a k ++ t'.slice b l)).1 ∧
        u.prev = s.prevAfter (k + l)
          (cbcDecChain s.keyD s.keyN (mask s.bs.toNat) (s.prev &&& mask s.bs.toNat) (s.slice a k ++ t'.slice b l)).2)

/-- R175: under an RSA key, chaining values that differ after masking give different first ciphertext blocks. -/
def Obligations.DifferentChainsDiffer : Prop :=
  ∀ (s t u : State) (p q start count p' : Nat), s.Wf → s.rsaKey p q → 1 ≤ count → p' < 2 ^ s.cfg.w →
    s.prev &&& mask s.bs.toNat ≠ p' &&& mask s.bs.toNat →
    exec (.cbcEnc start count) s = .next t → t.errcode = 0 →
    exec (.cbcEnc start count) { s with prev := p' } = .next u → u.errcode = 0 →
    t.bufAt start ≠ u.bufAt start

/-! ## Every command: 60_exceptions.md -/

/-- R221: "Every path ends in `complete()` ... or `raise Error`": every command ends, with BUSY = 0 and DONE = 1. -/
def Obligations.EveryCommandEnds : Prop :=
  ∀ (i : Instr) (s : State), ∃ t, exec i s = .next t ∧ t.pending = none ∧ t.done = true

/-- R24 to R28, R42: a command writes BUF, PREV and its completion fields, and nothing else. -/
def Obligations.CommandFrame : Prop :=
  ∀ (i : Instr) (s t : State), exec i s = .next t →
    t.buf.length = s.buf.length ∧
      t = { s with
        buf := t.buf, prev := t.prev, errcode := t.errcode, errIndex := t.errIndex, done := true, pending := none }

/-- R22: a command changes only the BUF entries it names as results. -/
def Obligations.BufferFrame : Prop :=
  ∀ (i : Instr) (s t : State) (j : Nat), exec i s = .next t → ¬i.writes j → t.bufAt j = s.bufAt j

/-- R28, R174: "no command other than CHAIN_INIT, CBC_ENC and CBC_DEC writes" PREV. -/
def Obligations.ChainRegisterFrame : Prop :=
  ∀ (i : Instr) (s t : State), exec i s = .next t → i.writesPrev = false → t.prev = s.prev

/-- R222: each command leaves one of the codes the table gives it; codes 6 to 15 are never produced. -/
def Obligations.ErrorCodesOfCommands : Prop :=
  ∀ (i : Instr) (s t : State), exec i s = .next t → t.errcode ∈ i.codes ∧ t.errcode.toNat ≤ 5

/-- R226: ERRINFO.INDEX names the entry whose value failed the range check after BLOCKRANGE, and is 0 otherwise;
CMD still holds the command word. -/
def Obligations.ErrinfoNamesFailedBlock : Prop :=
  ∀ (i : Instr) (s t : State), s.Wf → exec i s = .next t →
    t.cmd = s.cmd ∧ (t.errcode ≠ 5 → t.errIndex = 0) ∧
    (t.errcode = 5 →
      ∃ j, i.checked j ∧ j < s.cfg.nbuf ∧ t.errIndex.toNat = j ∧ t.bufAt j = s.bufAt j ∧ s.keyN ≤ i.checkedInput t j)

/-- R42: "No command reads a flag." "No command writes WERR." -/
def Obligations.CommandsReadNoFlag : Prop :=
  ∀ (i : Instr) (s : State) (d w : Bool) (e : BitVec 4) (x : BitVec 8) (p : Option Word),
    ∃ t, exec i s = .next t ∧ t.werr = s.werr ∧
      exec i { s with done := d, werr := w, errcode := e, errIndex := x, pending := p } = .next { t with werr := w }

/-! ## The step: 00_scope.md R16, 70_reset_and_hazards.md -/

/-- R221: a step with the engine's turn runs the command the pending word decodes to. The engine's turn is an event of
the script, or the default when the script is empty (log 4). -/
def Obligations.StepRunsDecodedCommand : Prop :=
  ∀ (s : State) (v : Word) (i : Instr), s.rstN = true → s.pending = some v → decode v = .ok i →
    (s.script = [] → step s = exec i s) ∧
    (∀ rest, s.script = .engine :: rest → step s = exec i { s with script := rest })

/-- R235: "When BUSY = 0 it is idle and performs no step until a command is accepted." That an idle turn is a step that
keeps the state is the model's choice (log 13). -/
def Obligations.IdleBlockKeepsState : Prop :=
  ∀ s : State, s.pending = none →
    (s.script = [] → step s = .next s) ∧
    (∀ rest, s.script = .engine :: rest → step s = .next { s with script := rest })

/-- R251, R46: the reset step. BUF is UNSPECIFIED: only its form is stated. That the response is none, and that the
agents' later events stay, is the model's choice (log 16). -/
def Obligations.ResetSetsRegisters : Prop :=
  ∀ (s : State) (rest : List Event), s.script = .resetLow :: rest →
    ∃ t, step s = .next t ∧ t.cfg = s.cfg ∧ Buf.wf t.cfg t.buf ∧ t.keyN = 0 ∧ t.keyE = 0 ∧ t.keyD = 0 ∧ t.iv = 0 ∧
      t.prev = 0 ∧ t.bs = 0 ∧ t.cmd = 0 ∧ t.statusWord = 0 ∧ t.errinfoWord = 0 ∧ t.irqEnWord = 0 ∧
      t.readWord .id = 0x52534131 ∧ t.readWord .param = s.readWord .param ∧ t.pending = none ∧ t.irq = false ∧
      t.resp = none ∧ t.rstN = false ∧ t.script = rest

/-- R250: "While rst_n is low the block completes no transaction and performs no engine step." That a transaction
presented then is dropped is the model's choice (log 7), and that a turn in which the engine has no step is a step that
keeps the state is the model's choice too (log 13). -/
def Obligations.ResetHoldsBlock : Prop :=
  ∀ (s : State) (rest : List Event), s.rstN = false →
    (∀ tx, s.script = .bus tx :: rest → step s = .next { s with script := rest, resp := none }) ∧
    (s.script = .engine :: rest → step s = .next { s with script := rest }) ∧
    (s.script = [] → step s = .next s) ∧
    (s.script = .resetHigh :: rest → step s = .next { s with script := rest, rstN := true })

/-- R227, R40: the interrupt line, and that a W1C write to STATUS clears its causes. -/
def Obligations.InterruptLine : Prop :=
  (∀ s : State, s.irq = true ↔ (s.done = true ∧ s.doneIE = true) ∨ (s.werr = true ∧ s.werrIE = true)) ∧
  ∀ (s : State) (rest : List Event), s.hostMoves ⟨true, 0x0010, 2, 0x6⟩ rest → ∃ t, step s = .next t ∧ t.irq = false

/-- The form of the state (`State.Wf`) is an invariant: every step that answers a next state keeps it, from every
state that has it. It bounds every register by its width (R10, R20), keeps ERRCODE at most 5 (R222), ERRINFO within
the buffer (R226), CMD equal to the pending word (R43) and DONE at 0 while BUSY = 1 (R35). -/
def Obligations.StepKeepsForm : Prop := ∀ s t : State, s.Wf → step s = .next t → t.Wf

/-- R46: the state after reset has the form, whatever the BUF draws are. The configuration is the reference one, the
model's choice (log 1). -/
def Obligations.ResetHasForm : Prop := State.reset.Wf

/-- R221, R78: fairness. After the agents' remaining events and one more step, no command stays pending. When no reset
is among the events (R251 discards the command), the command is performed: some step within them is the engine's, on a
state that still holds the operands it was accepted with, and it is exec of the decoded command, or ILLEGAL. That the
engine moves when the script is empty is the model's choice (log 4). -/
def Obligations.PendingCommandCompletes : Prop :=
  ∀ s : State, s.Wf →
    (∃ t, Host.Core.run core (s.script.length + 1) s = .next t ∧ t.script = [] ∧ t.pending = none) ∧
    (∀ v, s.pending = some v → Event.resetLow ∉ s.script →
      ∃ k u, k ≤ s.script.length ∧ Host.Core.run core k s = .next u ∧ u.pending = some v ∧
        (u.cfg = s.cfg ∧ u.buf = s.buf ∧ u.keyN = s.keyN ∧ u.keyE = s.keyE ∧ u.keyD = s.keyD ∧ u.iv = s.iv ∧
          u.prev = s.prev ∧ u.bs = s.bs ∧ u.cmd = s.cmd) ∧
        (∀ i, decode v = .ok i → step u = exec i { u with script := u.script.tail }) ∧
        (∀ e, decode v = .error e → step u = .next ({ u with script := u.script.tail }.errEnd 1 0)))

/-! ## The host: 45_host.md -/

/-- R192, R198: the codec round trip, and the padding ceiling as the one reason to refuse. R192 says only that the
operation fails: that the error kind is `paddingCeiling` is the model's choice (log 18). -/
def Obligations.CodecRoundTrip : Prop :=
  ∀ (text : List Char) (bs : Nat), 1 ≤ bs →
    (256 ≤ bs - (utf8Encode text).length % bs → textToBlocks text bs = .error .paddingCeiling) ∧
    (bs - (utf8Encode text).length % bs < 256 →
      ∃ blocks, textToBlocks text bs = .ok blocks ∧ (∀ v ∈ blocks, v < 256 ^ bs) ∧
        blocksToText blocks bs = .ok text)

/-- R190: key generation from two distinct primes gives a key that meets the premises of R153. -/
def Obligations.KeygenGivesRsaKey : Prop :=
  ∀ (len p : Nat) (qs : List Nat) (k : KeyPair), PrimeDraw len p → (∀ q ∈ qs, PrimeDraw len q) →
    keygen p qs = .ok k →
    ∃ q ∈ qs, q ≠ p ∧ k.modulus = p * q ∧ k.publicExponent = 65537 ∧
      k.publicExponent * k.privateExponent % ((p - 1) * (q - 1)) = 1 % ((p - 1) * (q - 1))
end

