-- ==== Sys2Proof/Laws/Arith.lean ====
section
/-! SUPPORT. What the number functions compute: bitLength (R12), powmod (R14), the masked values (R13), the words of a
wide value (R66). -/

namespace Sys2Proof.Machine

/-- R12: a value is below 2^bitLength. -/
theorem lt_two_pow_bitLength (v : Nat) : v < 2 ^ bitLength v := by
  unfold bitLength
  split
  · omega
  · exact Nat.lt_log2_self

/-- R12: a positive value is at least 2^(bitLength - 1). -/
theorem two_pow_le_of_bitLength (v : Nat) (h : v ≠ 0) : 2 ^ (bitLength v - 1) ≤ v := by
  simp only [bitLength, if_neg h, Nat.add_sub_cancel]
  exact Nat.log2_self_le h

/-- Square and multiply over `k` bits computes the power when the exponent has at most `k` bits. -/
theorem powSteps_eq (n : Nat) : ∀ k b x, x < 2 ^ k → powSteps n k b x = b ^ x % n
  | 0, b, x, h => by
    obtain rfl : x = 0 := by omega
    simp [powSteps]
  | k + 1, b, x, h => by
    have half : x / 2 < 2 ^ k := by omega
    have square : (b * b % n) ^ (x / 2) % n = b ^ (2 * (x / 2)) % n := by
      rw [← Nat.pow_mod, ← pow_two, ← pow_mul]
    rw [powSteps, powSteps_eq n k _ _ half, square]
    split
    · rename_i odd
      conv_rhs => rw [show x = 2 * (x / 2) + 1 by omega, pow_succ]
      rw [Nat.mul_mod_mod, Nat.mul_comm]
    · rename_i even
      rw [show 2 * (x / 2) = x by omega]

/-- R14: the model's powmod is `b^x mod n`. -/
theorem powmod_eq (b x n : Nat) : powmod b x n = b ^ x % n := by
  rw [powmod, powSteps_eq _ _ _ _ (lt_two_pow_bitLength x), ← Nat.pow_mod]

/-- R131: T is `v^x mod n`. -/
theorem transform_eq (v x n : Nat) : transform v x n = v ^ x % n := powmod_eq v x n

/-- R131: "Its result is always < n." -/
theorem transform_lt (v x n : Nat) (h : modulusOK n = true) : transform v x n < n := by
  rw [transform_eq]
  have odd : n % 2 = 1 := by simpa [modulusOK] using h
  exact Nat.mod_lt _ (by omega)

/-- R135: "MonPro's result is < n". -/
theorem monPro_lt (w a b n : Nat) (h : modulusOK n = true) : monPro w a b n < n := by
  have odd : n % 2 = 1 := by simpa [modulusOK] using h
  exact Nat.mod_lt _ (by omega)

/-- R13: masking is reduction modulo 2^(8*bs). -/
theorem and_mask (v bs : Nat) : v &&& mask bs = v % 2 ^ (8 * bs) := Nat.and_two_pow_sub_one_eq_mod v _

/-- R66: a word is below 2^32. -/
theorem wordOf_lt (x k : Nat) : wordOf x k < 2 ^ 32 := Nat.mod_lt _ (by norm_num)

/-- A value is what stands below word `k`, the word, and what stands above it. -/
theorem wordOf_split (x k : Nat) :
    x = x / 2 ^ (32 * (k + 1)) * 2 ^ (32 * (k + 1)) + wordOf x k * 2 ^ (32 * k) + x % 2 ^ (32 * k) := by
  have hi := Nat.div_add_mod (x / 2 ^ (32 * k)) (2 ^ 32)
  have lo := Nat.div_add_mod x (2 ^ (32 * k))
  have quot : x / 2 ^ (32 * k) / 2 ^ 32 = x / 2 ^ (32 * (k + 1)) := by
    rw [Nat.div_div_eq_div_mul, ← pow_add]; ring_nf
  have expand : 2 ^ (32 * (k + 1)) = 2 ^ 32 * 2 ^ (32 * k) := by rw [← pow_add]; ring_nf
  unfold wordOf
  rw [← quot, expand]
  calc x = 2 ^ (32 * k) * (x / 2 ^ (32 * k)) + x % 2 ^ (32 * k) := lo.symm
    _ = 2 ^ (32 * k) * (2 ^ 32 * (x / 2 ^ (32 * k) / 2 ^ 32) + x / 2 ^ (32 * k) % 2 ^ 32) + x % 2 ^ (32 * k) := by rw [hi]
    _ = _ := by ring

/-- R66: the value after a write of word `k`: the word is new, what stands above and below it is kept. -/
theorem setWord_split (x k v : Nat) :
    setWord x k v = x / 2 ^ (32 * (k + 1)) * 2 ^ (32 * (k + 1)) + v * 2 ^ (32 * k) + x % 2 ^ (32 * k) := by
  have split := wordOf_split x k
  unfold setWord
  omega

/-- A quotient below `m` and a remainder below `a` make a number below `m * a`. -/
theorem mul_add_lt (q m r a : Nat) (hq : q < m) (hr : r < a) : q * a + r < m * a :=
  calc q * a + r < q * a + a := by omega
    _ = (q + 1) * a := by ring
    _ ≤ m * a := Nat.mul_le_mul_right a hq

/-- R66: a write of one word keeps the value in the width of its register. -/
theorem setWord_lt (x k v nw : Nat) (hx : x < 2 ^ (32 * nw)) (hk : k < nw) (hv : v < 2 ^ 32) :
    setWord x k v < 2 ^ (32 * nw) := by
  obtain ⟨d, rfl⟩ : ∃ d, nw = k + 1 + d := ⟨nw - (k + 1), by omega⟩
  have cut : 2 ^ (32 * (k + 1 + d)) = 2 ^ (32 * d) * 2 ^ (32 * (k + 1)) := by rw [← pow_add]; ring_nf
  have step : 2 ^ (32 * (k + 1)) = 2 ^ 32 * 2 ^ (32 * k) := by rw [← pow_add]; ring_nf
  have high : x / 2 ^ (32 * (k + 1)) < 2 ^ (32 * d) := Nat.div_lt_of_lt_mul (by rw [Nat.mul_comm, ← cut]; exact hx)
  have low : x % 2 ^ (32 * k) < 2 ^ (32 * k) := Nat.mod_lt _ (by positivity)
  have mid : v * 2 ^ (32 * k) + x % 2 ^ (32 * k) < 2 ^ (32 * (k + 1)) := by
    rw [step]; exact mul_add_lt _ _ _ _ hv low
  rw [setWord_split, cut, Nat.add_assoc]
  exact mul_add_lt _ _ _ _ high mid

end Sys2Proof.Machine
end

