-- ==== Sys2Proof/Laws/HostSide.lean ====
section
/-! SUPPORT. What the host's driver can see: the state after a transaction, and no response while rst_n is low. -/

namespace Sys2Proof.Machine

/-- The driver's bus event is the host's step. -/
@[simp] theorem State.after_bus (s : State) (tx : Transaction) : s.after (.bus tx) = s.busEvent tx := rfl

/-- R250: while rst_n is low a transaction completes with no response and changes nothing else. -/
theorem State.busEvent_low (s : State) (tx : Transaction) (h : s.rstN = false) :
    s.busEvent tx = { s with resp := none } := by
  simp [State.busEvent, h]

/-- While rst_n is high the host's step is the transaction and its response. -/
theorem State.busEvent_high (s : State) (tx : Transaction) (h : s.rstN = true) :
    s.busEvent tx = { (s.transact tx).1 with resp := some (s.transact tx).2 } := by
  simp [State.busEvent, h]

/-- U12: while rst_n is low the host reads nothing. -/
theorem State.hostResponse_low (s : State) (t : Target) (h : s.rstN = false) : s.hostResponse t = none := by
  simp [State.hostResponse, rd, State.busEvent_low s _ h]

/-- U12: while rst_n is low a read that the host relies on fails. -/
theorem State.ask_low (s : State) (t : Target) (h : s.rstN = false) : s.ask t = .error .noResponse := by
  simp [State.ask, State.hostResponse_low s t h]

/-- While rst_n is high the host reads the word that the transaction's target holds. -/
theorem State.ask_high (s : State) (t u : Target) (h : s.rstN = true)
    (hl : legalTarget s.cfg ⟨false, BitVec.ofNat 16 t.address, 2, 0⟩ = some u) : s.ask t = .ok (s.readWord u) := by
  simp only [State.ask, State.hostResponse, rd, State.after_bus, State.busEvent_high s _ h, State.transact, hl]
  rfl

@[simp] theorem State.ask_status (s : State) (h : s.rstN = true) : s.ask .status = .ok s.statusWord :=
  s.ask_high .status .status h rfl
@[simp] theorem State.ask_id (s : State) (h : s.rstN = true) : s.ask .id = .ok idWord := s.ask_high .id .id h rfl
@[simp] theorem State.ask_param (s : State) (h : s.rstN = true) : s.ask .param = .ok s.paramWord :=
  s.ask_high .param .param h rfl

/-- Bit 0 of STATUS is BUSY (R34). -/
theorem State.statusWord_busy (s : State) : s.statusWord[0] = s.busy := by
  unfold State.statusWord
  rw [BitVec.getElem_append]
  simp

/-- R253: everything `awaitIdle` can do: fail while rst_n is low, go on as it is while BUSY = 0, else wait. -/
theorem State.awaitIdle_eq (s : State) :
    s.awaitIdle =
      if s.rstN = false then .error .noResponse else if s.busy = true then .ok (s.play (wait 1)) else .ok s := by
  cases h : s.rstN with
  | false => simp [State.awaitIdle, State.ask_low s _ h, bind, Except.bind]
  | true => simp [State.awaitIdle, State.ask_status s h, State.statusWord_busy, bind, Except.bind]

/-- R30, R253: what the host learns from PARAM is the block's configuration. -/
theorem State.hostConfig_eq (s : State) (hc : s.cfg.Ok) (h : s.rstN = true) : s.hostConfig = .ok s.cfg := by
  obtain ⟨-, -, hw, -, hn⟩ := hc
  have e : s.paramWord.toNat = 2 ^ 24 + s.cfg.nbuf * 2 ^ 16 + s.cfg.w := by
    simp only [State.paramWord, BitVec.toNat_append, BitVec.toNat_ofNat]
    rw [← Nat.shiftLeft_add_eq_or_of_lt (by omega), ← Nat.shiftLeft_add_eq_or_of_lt (by omega)]
    simp only [Nat.shiftLeft_eq]; omega
  have e1 : bits s.paramWord 15 0 = s.cfg.w := by
    simp [bits, e]; omega
  have e2 : bits s.paramWord 23 16 = s.cfg.nbuf := by
    simp [bits, e]; omega
  simp [State.hostConfig, State.ask_param s h, e1, e2, bind, Except.bind, pure, Except.pure]

/-- R202: a command that the host reports as done was written while BUSY = 0 and answered with ERRCODE = 0. -/
theorem State.hostCommand_ok {s t : State} {i : Instr} (h : s.hostCommand i = .ok t) :
    ∃ u, s.awaitIdle = .ok u ∧ t = u.play (run i 0) ∧
      ∃ v, t.hostResponse .status = some v ∧ errorKind (bits v 7 4) = none := by
  unfold State.hostCommand State.whenIdle at h
  cases hu : s.awaitIdle with
  | error e => simp [hu, bind, Except.bind] at h
  | ok u =>
    cases hr : (u.play (run i 0)).hostResponse .status with
    | none => simp [hu, hr, State.ask, bind, Except.bind, pure, Except.pure] at h
    | some v =>
      cases he : errorKind (bits v 7 4) with
      | some e => simp [hu, hr, he, State.ask, bind, Except.bind, pure, Except.pure] at h
      | none =>
        obtain rfl : u.play (run i 0) = t := by
          simpa [hu, hr, he, State.ask, bind, Except.bind, pure, Except.pure] using h
        exact ⟨u, rfl, rfl, v, hr, he⟩

end Sys2Proof.Machine
end

