-- ==== Sys2Proof/Laws/State.lean ====
section
/-! SUPPORT. One lemma per field of State per named update: what the update writes and what it leaves. -/

namespace Sys2Proof.Machine

variable (s : State)

/-! The fields after `BUF[i] <- v`. -/

@[simp] theorem State.setBuf_cfg (i v : Nat) : (s.setBuf i v).cfg = s.cfg := rfl
@[simp] theorem State.setBuf_buf (i v : Nat) : (s.setBuf i v).buf = s.buf.set i v := rfl
@[simp] theorem State.setBuf_keyN (i v : Nat) : (s.setBuf i v).keyN = s.keyN := rfl
@[simp] theorem State.setBuf_keyE (i v : Nat) : (s.setBuf i v).keyE = s.keyE := rfl
@[simp] theorem State.setBuf_keyD (i v : Nat) : (s.setBuf i v).keyD = s.keyD := rfl
@[simp] theorem State.setBuf_iv (i v : Nat) : (s.setBuf i v).iv = s.iv := rfl
@[simp] theorem State.setBuf_prev (i v : Nat) : (s.setBuf i v).prev = s.prev := rfl
@[simp] theorem State.setBuf_bs (i v : Nat) : (s.setBuf i v).bs = s.bs := rfl
@[simp] theorem State.setBuf_cmd (i v : Nat) : (s.setBuf i v).cmd = s.cmd := rfl
@[simp] theorem State.setBuf_pending (i v : Nat) : (s.setBuf i v).pending = s.pending := rfl
@[simp] theorem State.setBuf_done (i v : Nat) : (s.setBuf i v).done = s.done := rfl
@[simp] theorem State.setBuf_werr (i v : Nat) : (s.setBuf i v).werr = s.werr := rfl
@[simp] theorem State.setBuf_errcode (i v : Nat) : (s.setBuf i v).errcode = s.errcode := rfl
@[simp] theorem State.setBuf_errIndex (i v : Nat) : (s.setBuf i v).errIndex = s.errIndex := rfl
@[simp] theorem State.setBuf_doneIE (i v : Nat) : (s.setBuf i v).doneIE = s.doneIE := rfl
@[simp] theorem State.setBuf_werrIE (i v : Nat) : (s.setBuf i v).werrIE = s.werrIE := rfl
@[simp] theorem State.setBuf_rstN (i v : Nat) : (s.setBuf i v).rstN = s.rstN := rfl
@[simp] theorem State.setBuf_script (i v : Nat) : (s.setBuf i v).script = s.script := rfl
@[simp] theorem State.setBuf_resp (i v : Nat) : (s.setBuf i v).resp = s.resp := rfl
@[simp] theorem State.setBuf_draws (i v : Nat) : (s.setBuf i v).draws = s.draws := rfl

/-! The fields after `reg[PREV] <- v`. -/

@[simp] theorem State.setPrev_cfg (v : Nat) : (s.setPrev v).cfg = s.cfg := rfl
@[simp] theorem State.setPrev_buf (v : Nat) : (s.setPrev v).buf = s.buf := rfl
@[simp] theorem State.setPrev_keyN (v : Nat) : (s.setPrev v).keyN = s.keyN := rfl
@[simp] theorem State.setPrev_keyE (v : Nat) : (s.setPrev v).keyE = s.keyE := rfl
@[simp] theorem State.setPrev_keyD (v : Nat) : (s.setPrev v).keyD = s.keyD := rfl
@[simp] theorem State.setPrev_iv (v : Nat) : (s.setPrev v).iv = s.iv := rfl
@[simp] theorem State.setPrev_prev (v : Nat) : (s.setPrev v).prev = v := rfl
@[simp] theorem State.setPrev_bs (v : Nat) : (s.setPrev v).bs = s.bs := rfl
@[simp] theorem State.setPrev_cmd (v : Nat) : (s.setPrev v).cmd = s.cmd := rfl
@[simp] theorem State.setPrev_pending (v : Nat) : (s.setPrev v).pending = s.pending := rfl
@[simp] theorem State.setPrev_done (v : Nat) : (s.setPrev v).done = s.done := rfl
@[simp] theorem State.setPrev_werr (v : Nat) : (s.setPrev v).werr = s.werr := rfl
@[simp] theorem State.setPrev_errcode (v : Nat) : (s.setPrev v).errcode = s.errcode := rfl
@[simp] theorem State.setPrev_errIndex (v : Nat) : (s.setPrev v).errIndex = s.errIndex := rfl
@[simp] theorem State.setPrev_doneIE (v : Nat) : (s.setPrev v).doneIE = s.doneIE := rfl
@[simp] theorem State.setPrev_werrIE (v : Nat) : (s.setPrev v).werrIE = s.werrIE := rfl
@[simp] theorem State.setPrev_rstN (v : Nat) : (s.setPrev v).rstN = s.rstN := rfl
@[simp] theorem State.setPrev_script (v : Nat) : (s.setPrev v).script = s.script := rfl
@[simp] theorem State.setPrev_resp (v : Nat) : (s.setPrev v).resp = s.resp := rfl
@[simp] theorem State.setPrev_draws (v : Nat) : (s.setPrev v).draws = s.draws := rfl

/-! The fields after acceptance (R220). -/

@[simp] theorem State.accept_cfg (v : Word) : (s.accept v).cfg = s.cfg := rfl
@[simp] theorem State.accept_buf (v : Word) : (s.accept v).buf = s.buf := rfl
@[simp] theorem State.accept_keyN (v : Word) : (s.accept v).keyN = s.keyN := rfl
@[simp] theorem State.accept_keyE (v : Word) : (s.accept v).keyE = s.keyE := rfl
@[simp] theorem State.accept_keyD (v : Word) : (s.accept v).keyD = s.keyD := rfl
@[simp] theorem State.accept_iv (v : Word) : (s.accept v).iv = s.iv := rfl
@[simp] theorem State.accept_prev (v : Word) : (s.accept v).prev = s.prev := rfl
@[simp] theorem State.accept_bs (v : Word) : (s.accept v).bs = s.bs := rfl
@[simp] theorem State.accept_cmd (v : Word) : (s.accept v).cmd = v := rfl
@[simp] theorem State.accept_pending (v : Word) : (s.accept v).pending = some v := rfl
@[simp] theorem State.accept_done (v : Word) : (s.accept v).done = false := rfl
@[simp] theorem State.accept_werr (v : Word) : (s.accept v).werr = s.werr := rfl
@[simp] theorem State.accept_errcode (v : Word) : (s.accept v).errcode = s.errcode := rfl
@[simp] theorem State.accept_errIndex (v : Word) : (s.accept v).errIndex = s.errIndex := rfl
@[simp] theorem State.accept_doneIE (v : Word) : (s.accept v).doneIE = s.doneIE := rfl
@[simp] theorem State.accept_werrIE (v : Word) : (s.accept v).werrIE = s.werrIE := rfl
@[simp] theorem State.accept_rstN (v : Word) : (s.accept v).rstN = s.rstN := rfl
@[simp] theorem State.accept_script (v : Word) : (s.accept v).script = s.script := rfl
@[simp] theorem State.accept_resp (v : Word) : (s.accept v).resp = s.resp := rfl
@[simp] theorem State.accept_draws (v : Word) : (s.accept v).draws = s.draws := rfl

/-! The fields after `complete()` (R223). -/

@[simp] theorem State.complete_cfg : s.complete.cfg = s.cfg := rfl
@[simp] theorem State.complete_buf : s.complete.buf = s.buf := rfl
@[simp] theorem State.complete_keyN : s.complete.keyN = s.keyN := rfl
@[simp] theorem State.complete_keyE : s.complete.keyE = s.keyE := rfl
@[simp] theorem State.complete_keyD : s.complete.keyD = s.keyD := rfl
@[simp] theorem State.complete_iv : s.complete.iv = s.iv := rfl
@[simp] theorem State.complete_prev : s.complete.prev = s.prev := rfl
@[simp] theorem State.complete_bs : s.complete.bs = s.bs := rfl
@[simp] theorem State.complete_cmd : s.complete.cmd = s.cmd := rfl
@[simp] theorem State.complete_pending : s.complete.pending = none := rfl
@[simp] theorem State.complete_done : s.complete.done = true := rfl
@[simp] theorem State.complete_werr : s.complete.werr = s.werr := rfl
@[simp] theorem State.complete_errcode : s.complete.errcode = 0 := rfl
@[simp] theorem State.complete_errIndex : s.complete.errIndex = 0 := rfl
@[simp] theorem State.complete_doneIE : s.complete.doneIE = s.doneIE := rfl
@[simp] theorem State.complete_werrIE : s.complete.werrIE = s.werrIE := rfl
@[simp] theorem State.complete_rstN : s.complete.rstN = s.rstN := rfl
@[simp] theorem State.complete_script : s.complete.script = s.script := rfl
@[simp] theorem State.complete_resp : s.complete.resp = s.resp := rfl
@[simp] theorem State.complete_draws : s.complete.draws = s.draws := rfl

/-! The fields after `raise Error` (R224). -/

@[simp] theorem State.raiseError_cfg (code : ErrCode) (index : Nat) : (s.raiseError code index).cfg = s.cfg := rfl
@[simp] theorem State.raiseError_buf (code : ErrCode) (index : Nat) : (s.raiseError code index).buf = s.buf := rfl
@[simp] theorem State.raiseError_keyN (code : ErrCode) (index : Nat) : (s.raiseError code index).keyN = s.keyN := rfl
@[simp] theorem State.raiseError_keyE (code : ErrCode) (index : Nat) : (s.raiseError code index).keyE = s.keyE := rfl
@[simp] theorem State.raiseError_keyD (code : ErrCode) (index : Nat) : (s.raiseError code index).keyD = s.keyD := rfl
@[simp] theorem State.raiseError_iv (code : ErrCode) (index : Nat) : (s.raiseError code index).iv = s.iv := rfl
@[simp] theorem State.raiseError_prev (code : ErrCode) (index : Nat) : (s.raiseError code index).prev = s.prev := rfl
@[simp] theorem State.raiseError_bs (code : ErrCode) (index : Nat) : (s.raiseError code index).bs = s.bs := rfl
@[simp] theorem State.raiseError_cmd (code : ErrCode) (index : Nat) : (s.raiseError code index).cmd = s.cmd := rfl
@[simp] theorem State.raiseError_pending (code : ErrCode) (index : Nat) : (s.raiseError code index).pending = none := rfl
@[simp] theorem State.raiseError_done (code : ErrCode) (index : Nat) : (s.raiseError code index).done = true := rfl
@[simp] theorem State.raiseError_werr (code : ErrCode) (index : Nat) : (s.raiseError code index).werr = s.werr := rfl
@[simp] theorem State.raiseError_errcode (code : ErrCode) (index : Nat) : (s.raiseError code index).errcode = code.code := rfl
@[simp] theorem State.raiseError_errIndex (code : ErrCode) (index : Nat) : (s.raiseError code index).errIndex = BitVec.ofNat 8 index := rfl
@[simp] theorem State.raiseError_doneIE (code : ErrCode) (index : Nat) : (s.raiseError code index).doneIE = s.doneIE := rfl
@[simp] theorem State.raiseError_werrIE (code : ErrCode) (index : Nat) : (s.raiseError code index).werrIE = s.werrIE := rfl
@[simp] theorem State.raiseError_rstN (code : ErrCode) (index : Nat) : (s.raiseError code index).rstN = s.rstN := rfl
@[simp] theorem State.raiseError_script (code : ErrCode) (index : Nat) : (s.raiseError code index).script = s.script := rfl
@[simp] theorem State.raiseError_resp (code : ErrCode) (index : Nat) : (s.raiseError code index).resp = s.resp := rfl
@[simp] theorem State.raiseError_draws (code : ErrCode) (index : Nat) : (s.raiseError code index).draws = s.draws := rfl

/-! The fields after a write to STATUS (R35, R36). -/

@[simp] theorem State.clearStatus_cfg (v : Word) : (s.clearStatus v).cfg = s.cfg := rfl
@[simp] theorem State.clearStatus_buf (v : Word) : (s.clearStatus v).buf = s.buf := rfl
@[simp] theorem State.clearStatus_keyN (v : Word) : (s.clearStatus v).keyN = s.keyN := rfl
@[simp] theorem State.clearStatus_keyE (v : Word) : (s.clearStatus v).keyE = s.keyE := rfl
@[simp] theorem State.clearStatus_keyD (v : Word) : (s.clearStatus v).keyD = s.keyD := rfl
@[simp] theorem State.clearStatus_iv (v : Word) : (s.clearStatus v).iv = s.iv := rfl
@[simp] theorem State.clearStatus_prev (v : Word) : (s.clearStatus v).prev = s.prev := rfl
@[simp] theorem State.clearStatus_bs (v : Word) : (s.clearStatus v).bs = s.bs := rfl
@[simp] theorem State.clearStatus_cmd (v : Word) : (s.clearStatus v).cmd = s.cmd := rfl
@[simp] theorem State.clearStatus_pending (v : Word) : (s.clearStatus v).pending = s.pending := rfl
@[simp] theorem State.clearStatus_done (v : Word) : (s.clearStatus v).done = (s.done && !v.getLsbD 1) := rfl
@[simp] theorem State.clearStatus_werr (v : Word) : (s.clearStatus v).werr = (s.werr && !v.getLsbD 2) := rfl
@[simp] theorem State.clearStatus_errcode (v : Word) : (s.clearStatus v).errcode = s.errcode := rfl
@[simp] theorem State.clearStatus_errIndex (v : Word) : (s.clearStatus v).errIndex = s.errIndex := rfl
@[simp] theorem State.clearStatus_doneIE (v : Word) : (s.clearStatus v).doneIE = s.doneIE := rfl
@[simp] theorem State.clearStatus_werrIE (v : Word) : (s.clearStatus v).werrIE = s.werrIE := rfl
@[simp] theorem State.clearStatus_rstN (v : Word) : (s.clearStatus v).rstN = s.rstN := rfl
@[simp] theorem State.clearStatus_script (v : Word) : (s.clearStatus v).script = s.script := rfl
@[simp] theorem State.clearStatus_resp (v : Word) : (s.clearStatus v).resp = s.resp := rfl
@[simp] theorem State.clearStatus_draws (v : Word) : (s.clearStatus v).draws = s.draws := rfl

/-! The fields after a write to IRQ_EN (R39). -/

@[simp] theorem State.setIrqEn_cfg (v : Word) : (s.setIrqEn v).cfg = s.cfg := rfl
@[simp] theorem State.setIrqEn_buf (v : Word) : (s.setIrqEn v).buf = s.buf := rfl
@[simp] theorem State.setIrqEn_keyN (v : Word) : (s.setIrqEn v).keyN = s.keyN := rfl
@[simp] theorem State.setIrqEn_keyE (v : Word) : (s.setIrqEn v).keyE = s.keyE := rfl
@[simp] theorem State.setIrqEn_keyD (v : Word) : (s.setIrqEn v).keyD = s.keyD := rfl
@[simp] theorem State.setIrqEn_iv (v : Word) : (s.setIrqEn v).iv = s.iv := rfl
@[simp] theorem State.setIrqEn_prev (v : Word) : (s.setIrqEn v).prev = s.prev := rfl
@[simp] theorem State.setIrqEn_bs (v : Word) : (s.setIrqEn v).bs = s.bs := rfl
@[simp] theorem State.setIrqEn_cmd (v : Word) : (s.setIrqEn v).cmd = s.cmd := rfl
@[simp] theorem State.setIrqEn_pending (v : Word) : (s.setIrqEn v).pending = s.pending := rfl
@[simp] theorem State.setIrqEn_done (v : Word) : (s.setIrqEn v).done = s.done := rfl
@[simp] theorem State.setIrqEn_werr (v : Word) : (s.setIrqEn v).werr = s.werr := rfl
@[simp] theorem State.setIrqEn_errcode (v : Word) : (s.setIrqEn v).errcode = s.errcode := rfl
@[simp] theorem State.setIrqEn_errIndex (v : Word) : (s.setIrqEn v).errIndex = s.errIndex := rfl
@[simp] theorem State.setIrqEn_doneIE (v : Word) : (s.setIrqEn v).doneIE = v.getLsbD 0 := rfl
@[simp] theorem State.setIrqEn_werrIE (v : Word) : (s.setIrqEn v).werrIE = v.getLsbD 1 := rfl
@[simp] theorem State.setIrqEn_rstN (v : Word) : (s.setIrqEn v).rstN = s.rstN := rfl
@[simp] theorem State.setIrqEn_script (v : Word) : (s.setIrqEn v).script = s.script := rfl
@[simp] theorem State.setIrqEn_resp (v : Word) : (s.setIrqEn v).resp = s.resp := rfl
@[simp] theorem State.setIrqEn_draws (v : Word) : (s.setIrqEn v).draws = s.draws := rfl

/-! The fields after a write to BSIZE (R31). -/

@[simp] theorem State.setBsize_cfg (v : Word) : (s.setBsize v).cfg = s.cfg := rfl
@[simp] theorem State.setBsize_buf (v : Word) : (s.setBsize v).buf = s.buf := rfl
@[simp] theorem State.setBsize_keyN (v : Word) : (s.setBsize v).keyN = s.keyN := rfl
@[simp] theorem State.setBsize_keyE (v : Word) : (s.setBsize v).keyE = s.keyE := rfl
@[simp] theorem State.setBsize_keyD (v : Word) : (s.setBsize v).keyD = s.keyD := rfl
@[simp] theorem State.setBsize_iv (v : Word) : (s.setBsize v).iv = s.iv := rfl
@[simp] theorem State.setBsize_prev (v : Word) : (s.setBsize v).prev = s.prev := rfl
@[simp] theorem State.setBsize_bs (v : Word) : (s.setBsize v).bs = v.setWidth 10 := rfl
@[simp] theorem State.setBsize_cmd (v : Word) : (s.setBsize v).cmd = s.cmd := rfl
@[simp] theorem State.setBsize_pending (v : Word) : (s.setBsize v).pending = s.pending := rfl
@[simp] theorem State.setBsize_done (v : Word) : (s.setBsize v).done = s.done := rfl
@[simp] theorem State.setBsize_werr (v : Word) : (s.setBsize v).werr = s.werr := rfl
@[simp] theorem State.setBsize_errcode (v : Word) : (s.setBsize v).errcode = s.errcode := rfl
@[simp] theorem State.setBsize_errIndex (v : Word) : (s.setBsize v).errIndex = s.errIndex := rfl
@[simp] theorem State.setBsize_doneIE (v : Word) : (s.setBsize v).doneIE = s.doneIE := rfl
@[simp] theorem State.setBsize_werrIE (v : Word) : (s.setBsize v).werrIE = s.werrIE := rfl
@[simp] theorem State.setBsize_rstN (v : Word) : (s.setBsize v).rstN = s.rstN := rfl
@[simp] theorem State.setBsize_script (v : Word) : (s.setBsize v).script = s.script := rfl
@[simp] theorem State.setBsize_resp (v : Word) : (s.setBsize v).resp = s.resp := rfl
@[simp] theorem State.setBsize_draws (v : Word) : (s.setBsize v).draws = s.draws := rfl

/-! The fields after a dropped write (R80). -/

@[simp] theorem State.dropWrite_cfg : s.dropWrite.cfg = s.cfg := rfl
@[simp] theorem State.dropWrite_buf : s.dropWrite.buf = s.buf := rfl
@[simp] theorem State.dropWrite_keyN : s.dropWrite.keyN = s.keyN := rfl
@[simp] theorem State.dropWrite_keyE : s.dropWrite.keyE = s.keyE := rfl
@[simp] theorem State.dropWrite_keyD : s.dropWrite.keyD = s.keyD := rfl
@[simp] theorem State.dropWrite_iv : s.dropWrite.iv = s.iv := rfl
@[simp] theorem State.dropWrite_prev : s.dropWrite.prev = s.prev := rfl
@[simp] theorem State.dropWrite_bs : s.dropWrite.bs = s.bs := rfl
@[simp] theorem State.dropWrite_cmd : s.dropWrite.cmd = s.cmd := rfl
@[simp] theorem State.dropWrite_pending : s.dropWrite.pending = s.pending := rfl
@[simp] theorem State.dropWrite_done : s.dropWrite.done = s.done := rfl
@[simp] theorem State.dropWrite_werr : s.dropWrite.werr = true := rfl
@[simp] theorem State.dropWrite_errcode : s.dropWrite.errcode = s.errcode := rfl
@[simp] theorem State.dropWrite_errIndex : s.dropWrite.errIndex = s.errIndex := rfl
@[simp] theorem State.dropWrite_doneIE : s.dropWrite.doneIE = s.doneIE := rfl
@[simp] theorem State.dropWrite_werrIE : s.dropWrite.werrIE = s.werrIE := rfl
@[simp] theorem State.dropWrite_rstN : s.dropWrite.rstN = s.rstN := rfl
@[simp] theorem State.dropWrite_script : s.dropWrite.script = s.script := rfl
@[simp] theorem State.dropWrite_resp : s.dropWrite.resp = s.resp := rfl
@[simp] theorem State.dropWrite_draws : s.dropWrite.draws = s.draws := rfl

/-! The fields after the release of rst_n (R250). -/

@[simp] theorem State.resetReleased_cfg : s.resetReleased.cfg = s.cfg := rfl
@[simp] theorem State.resetReleased_buf : s.resetReleased.buf = s.buf := rfl
@[simp] theorem State.resetReleased_keyN : s.resetReleased.keyN = s.keyN := rfl
@[simp] theorem State.resetReleased_keyE : s.resetReleased.keyE = s.keyE := rfl
@[simp] theorem State.resetReleased_keyD : s.resetReleased.keyD = s.keyD := rfl
@[simp] theorem State.resetReleased_iv : s.resetReleased.iv = s.iv := rfl
@[simp] theorem State.resetReleased_prev : s.resetReleased.prev = s.prev := rfl
@[simp] theorem State.resetReleased_bs : s.resetReleased.bs = s.bs := rfl
@[simp] theorem State.resetReleased_cmd : s.resetReleased.cmd = s.cmd := rfl
@[simp] theorem State.resetReleased_pending : s.resetReleased.pending = s.pending := rfl
@[simp] theorem State.resetReleased_done : s.resetReleased.done = s.done := rfl
@[simp] theorem State.resetReleased_werr : s.resetReleased.werr = s.werr := rfl
@[simp] theorem State.resetReleased_errcode : s.resetReleased.errcode = s.errcode := rfl
@[simp] theorem State.resetReleased_errIndex : s.resetReleased.errIndex = s.errIndex := rfl
@[simp] theorem State.resetReleased_doneIE : s.resetReleased.doneIE = s.doneIE := rfl
@[simp] theorem State.resetReleased_werrIE : s.resetReleased.werrIE = s.werrIE := rfl
@[simp] theorem State.resetReleased_rstN : s.resetReleased.rstN = true := rfl
@[simp] theorem State.resetReleased_script : s.resetReleased.script = s.script := rfl
@[simp] theorem State.resetReleased_resp : s.resetReleased.resp = s.resp := rfl
@[simp] theorem State.resetReleased_draws : s.resetReleased.draws = s.draws := rfl

/-! The fields after the reset step (R251). -/

@[simp] theorem State.resetAsserted_cfg : s.resetAsserted.cfg = s.cfg := rfl
@[simp] theorem State.resetAsserted_buf : s.resetAsserted.buf = (State.atReset s.cfg s.draws).buf := rfl
@[simp] theorem State.resetAsserted_keyN : s.resetAsserted.keyN = 0 := rfl
@[simp] theorem State.resetAsserted_keyE : s.resetAsserted.keyE = 0 := rfl
@[simp] theorem State.resetAsserted_keyD : s.resetAsserted.keyD = 0 := rfl
@[simp] theorem State.resetAsserted_iv : s.resetAsserted.iv = 0 := rfl
@[simp] theorem State.resetAsserted_prev : s.resetAsserted.prev = 0 := rfl
@[simp] theorem State.resetAsserted_bs : s.resetAsserted.bs = 0 := rfl
@[simp] theorem State.resetAsserted_cmd : s.resetAsserted.cmd = 0 := rfl
@[simp] theorem State.resetAsserted_pending : s.resetAsserted.pending = none := rfl
@[simp] theorem State.resetAsserted_done : s.resetAsserted.done = false := rfl
@[simp] theorem State.resetAsserted_werr : s.resetAsserted.werr = false := rfl
@[simp] theorem State.resetAsserted_errcode : s.resetAsserted.errcode = 0 := rfl
@[simp] theorem State.resetAsserted_errIndex : s.resetAsserted.errIndex = 0 := rfl
@[simp] theorem State.resetAsserted_doneIE : s.resetAsserted.doneIE = false := rfl
@[simp] theorem State.resetAsserted_werrIE : s.resetAsserted.werrIE = false := rfl
@[simp] theorem State.resetAsserted_rstN : s.resetAsserted.rstN = false := rfl
@[simp] theorem State.resetAsserted_script : s.resetAsserted.script = s.script := rfl
@[simp] theorem State.resetAsserted_resp : s.resetAsserted.resp = none := rfl
@[simp] theorem State.resetAsserted_draws : s.resetAsserted.draws = s.draws + 1 := rfl

/-! Reading the buffer after the updates. -/

@[simp] theorem State.setPrev_bufAt (v i : Nat) : (s.setPrev v).bufAt i = s.bufAt i := rfl
@[simp] theorem State.complete_bufAt (i : Nat) : s.complete.bufAt i = s.bufAt i := rfl
@[simp] theorem State.raiseError_bufAt (code : ErrCode) (index i : Nat) :
    (s.raiseError code index).bufAt i = s.bufAt i := rfl
@[simp] theorem State.accept_bufAt (v : Word) (i : Nat) : (s.accept v).bufAt i = s.bufAt i := rfl

/-- The value written is the value read, at an index the buffer has. -/
theorem State.setBuf_bufAt_self (i v : Nat) (h : i < s.buf.length) : (s.setBuf i v).bufAt i = v := by
  simp [State.bufAt, State.setBuf, h]

/-- A write leaves every other entry. -/
theorem State.setBuf_bufAt_ne (i j v : Nat) (h : j ≠ i) : (s.setBuf i v).bufAt j = s.bufAt j := by
  simp [State.bufAt, State.setBuf, List.getElem?_set_ne (Ne.symm h)]

@[simp] theorem State.setBuf_length (i v : Nat) : (s.setBuf i v).buf.length = s.buf.length := by simp

/-! The derived operands after the updates. -/

@[simp] theorem State.setBuf_blockSize (i v : Nat) : (s.setBuf i v).blockSize = s.blockSize := rfl
@[simp] theorem State.setPrev_blockSize (v : Nat) : (s.setPrev v).blockSize = s.blockSize := rfl
@[simp] theorem State.setBuf_chain (i v : Nat) : (s.setBuf i v).chain = s.chain := rfl

end Sys2Proof.Machine
end

