-- ==== Sys2Proof/Laws/Ops.lean ====
section
/-! SUPPORT. One lemma per shared operation that says once everything it can do; the provers cite these instead of
unfolding the operations. -/

namespace Sys2Proof.Machine

/-- The two ends of a command leave no command pending and set DONE (R223, R224). -/
theorem CmdEnd.finish_pending (e : CmdEnd) : e.finish.pending = none ∧ e.finish.done = true := by
  cases e <;> simp [CmdEnd.finish]

/-- The state inside an end. -/
def CmdEnd.state : CmdEnd → State
  | .completed s => s
  | .raised _ _ s => s

/-- Finishing writes the result fields alone. -/
theorem CmdEnd.finish_eq (e : CmdEnd) :
    e.finish = { e.state with errcode := e.finish.errcode, errIndex := e.finish.errIndex, done := true, pending := none } := by
  cases e <;> rfl

/-- A relation that every block step keeps, however it ends, is kept by the whole run (R101, R224). -/
theorem forBlocks_keeps {body : Nat → State → CmdEnd} (P : State → Prop)
    (keep : ∀ i s, P s → P (body i s).state) : ∀ k i s, P s → P (forBlocks body k i s).state
  | 0, _, _, h => h
  | k + 1, i, s, h => by
    have once := keep i s h
    unfold forBlocks
    split
    · rename_i t ht
      rw [ht] at once
      exact forBlocks_keeps P keep k (i + 1) t once
    · rename_i ht
      rw [ht] at once
      exact once

/-- As `forBlocks_keeps`, for a relation that a block step keeps when its index lies in the run. -/
theorem forBlocks_keeps_in {body : Nat → State → CmdEnd} (P : State → Prop) (lo hi : Nat)
    (keep : ∀ i s, lo ≤ i → i < hi → P s → P (body i s).state) :
    ∀ k i s, lo ≤ i → i + k ≤ hi → P s → P (forBlocks body k i s).state
  | 0, _, _, _, _, h => h
  | k + 1, i, s, hlo, hhi, h => by
    have once := keep i s hlo (by omega) h
    unfold forBlocks
    split
    · rename_i t ht
      rw [ht] at once
      exact forBlocks_keeps_in P lo hi keep k (i + 1) t (by omega) (by omega) once
    · rename_i ht
      rw [ht] at once
      exact once

/-- Everything a sequence command can do (R225): one of the three refusals of the checks, or its run. -/
theorem sequenceCommand_cases (body : Nat → State → CmdEnd) (start count : Nat) (s : State) :
    (s.runOK start count = false ∧ sequenceCommand body start count s = .next (s.raiseError .index 0)) ∨
    (s.runOK start count = true ∧ s.sizeOK = false ∧
      sequenceCommand body start count s = .next (s.raiseError .blockSize 0)) ∨
    (s.runOK start count = true ∧ s.sizeOK = true ∧ modulusOK s.keyN = false ∧
      sequenceCommand body start count s = .next (s.raiseError .modulus 0)) ∨
    (s.runOK start count = true ∧ s.sizeOK = true ∧ modulusOK s.keyN = true ∧
      sequenceCommand body start count s = .next (forBlocks body count start s).finish) := by
  unfold sequenceCommand
  cases s.runOK start count <;> cases s.sizeOK <;> cases modulusOK s.keyN <;> simp

/-- Everything a transaction can do (R61, R62): a bus error without a change, a read without a change, or a write. -/
theorem transact_cases (s : State) (tx : Transaction) :
    (legalTarget s.cfg tx = none ∧ s.transact tx = (s, Response.busError)) ∨
    (∃ t, legalTarget s.cfg tx = some t ∧ tx.we = false ∧ s.transact tx = (s, ⟨some (s.readWord t), false⟩)) ∨
    (∃ t, legalTarget s.cfg tx = some t ∧ tx.we = true ∧ s.transact tx = (s.writeWord t tx.wdata, ⟨none, false⟩)) := by
  unfold State.transact
  cases h : legalTarget s.cfg tx with
  | none => simp
  | some t => cases hw : tx.we <;> simp

/-- Everything a legal write can do (R64, R68, R80). -/
theorem writeWord_cases (s : State) (t : Target) (v : Word) :
    s.writeWord t v = s ∨ s.writeWord t v = s.clearStatus v ∨ s.writeWord t v = s.setIrqEn v ∨
    (s.busy = true ∧ s.writeWord t v = s.dropWrite) ∨
    (s.busy = false ∧ t = .bsize ∧ s.writeWord t v = s.setBsize v) ∨
    (s.busy = false ∧ t = .cmd ∧ s.writeWord t v = s.accept v) ∨
    (s.busy = false ∧ ∃ r k, t = .wide r k ∧ s.writeWord t v = s.setWide r (setWord (s.wide r) k v.toNat)) := by
  cases t <;> cases hb : s.busy <;> simp [State.writeWord, hb]

/-- What the engine's turn does when its step is not enabled: nothing (R221, R235, R250). -/
theorem engineTurn_idle (s : State) (h : s.rstN = false ∨ s.pending = none) : engineTurn s = .next s := by
  unfold engineTurn
  rcases h with h | h <;> cases hr : s.rstN <;> simp_all

/-- What the engine's turn does when its step is enabled (R221). -/
theorem engineTurn_busy (s : State) (v : Word) (hr : s.rstN = true) (hp : s.pending = some v) :
    engineTurn s = runCommand v s := by
  simp [engineTurn, hr, hp]

/-- A step without events left is the engine's turn. -/
theorem step_nil (s : State) (h : s.script = []) : step s = engineTurn s := by simp [step, turn, h]

/-- A step with an event left performs it on the state without it. -/
theorem step_cons (s : State) (e : Event) (rest : List Event) (h : s.script = e :: rest) :
    step s = perform e { s with script := rest } := by simp [step, turn, h]

/-- Nothing depends on the fetch helper but the pending word: `withFetchWord` runs as an accepted command does. -/
theorem step_withFetchWord (s : State) (nbits w : Nat) :
    step (s.withFetchWord nbits w) = runCommand (BitVec.ofNat 32 (w % 2 ^ nbits)) (s.withFetchWord nbits w) := by
  rw [step_nil _ rfl, engineTurn_busy _ (BitVec.ofNat 32 (w % 2 ^ nbits)) rfl rfl]

end Sys2Proof.Machine
end

