-- ==== Sys2Proof/Laws/PerInstr.lean ====
section
/-! SUPPORT. The per-instruction family OpcodeRow: the word of every command carries the OP value of its row of
the opcode map and a zero RSV field (30_encoding.md R91, R93). -/

namespace Sys2Proof.Laws.OpcodeRow

/-- R93: the OP value of a command's row. -/
def opcode : Instr → Nat
  | .nop => 0x0
  | .check => 0x1
  | .chainInit => 0x2
  | .ecbEnc _ _ => 0x4
  | .ecbDec _ _ => 0x5
  | .cbcEnc _ _ => 0x6
  | .cbcDec _ _ => 0x7
  | .modexp _ _ _ => 0x8
  | .montmul _ _ _ => 0x9

/-- The word of a command has its row's OP and RSV = 0. -/
def Statement (i : Instr) : Prop := bits (encode i) 3 0 = opcode i ∧ bits (encode i) 7 5 = 0

/-- The low byte of packed fields. -/
theorem packFields_low (op x a b c : Nat) (hop : op < 16) (hx : x < 2) :
    bits (packFields op x a b c) 3 0 = op ∧ bits (packFields op x a b c) 7 5 = 0 := by
  simp only [bits, packFields, BitVec.toNat_ofNat]
  norm_num
  omega

theorem nop : Statement .nop := packFields_low _ _ _ _ _ (by omega) (by omega)

theorem check : Statement .check := packFields_low _ _ _ _ _ (by omega) (by omega)

theorem chainInit : Statement .chainInit := packFields_low _ _ _ _ _ (by omega) (by omega)

theorem ecbEnc (start count : Nat) : Statement (.ecbEnc start count) := packFields_low _ _ _ _ _ (by omega) (by omega)

theorem ecbDec (start count : Nat) : Statement (.ecbDec start count) := packFields_low _ _ _ _ _ (by omega) (by omega)

theorem cbcEnc (start count : Nat) : Statement (.cbcEnc start count) := packFields_low _ _ _ _ _ (by omega) (by omega)

theorem cbcDec (start count : Nat) : Statement (.cbcDec start count) := packFields_low _ _ _ _ _ (by omega) (by omega)

theorem modexp (x : ExpSel) (src dst : Nat) : Statement (.modexp x src dst) := packFields_low _ _ _ _ _ (by omega) (by cases x <;> simp [selectBit])

theorem montmul (srcA srcB dst : Nat) : Statement (.montmul srcA srcB dst) := packFields_low _ _ _ _ _ (by omega) (by omega)

end Sys2Proof.Laws.OpcodeRow
end

