-- ==== Sys2Proof/Laws/Wf.lean ====
section
/-! SUPPORT. The operations on the block buffer and the wide registers keep their form (`Buf.wf`, `State.regsFit`), and
the state after reset has it. -/

namespace Sys2Proof.Machine

/-- Storing a value that fits keeps the form of the buffer. -/
theorem Buf.wf_set {cfg : Config} {b : List Nat} (h : Buf.wf cfg b) (i v : Nat) (hv : v < 2 ^ cfg.w) :
    Buf.wf cfg (b.set i v) := by
  refine ⟨by rw [List.length_set]; exact h.1, fun x hx => ?_⟩
  rcases List.mem_or_eq_of_mem_set hx with hx | rfl
  · exact h.2 x hx
  · exact hv

/-- The buffer after a reset has the form, whatever was drawn (R46, R254). -/
theorem Buf.wf_atReset (cfg : Config) (k : Nat) : Buf.wf cfg (State.atReset cfg k).buf := by
  refine ⟨by simp [State.atReset], fun x hx => ?_⟩
  obtain ⟨i, -, rfl⟩ := List.mem_map.1 hx
  exact Nat.mod_lt _ (Nat.two_pow_pos _)

/-- An entry of a buffer in the form is below 2^W. -/
theorem State.bufAt_lt {s : State} (h : Buf.wf s.cfg s.buf) (i : Nat) : s.bufAt i < 2 ^ s.cfg.w := by
  unfold State.bufAt
  by_cases hi : i < s.buf.length
  · rw [List.getD_eq_getElem _ _ hi]; exact h.2 _ (List.getElem_mem hi)
  · rw [List.getD_eq_default _ _ (by omega)]; exact Nat.two_pow_pos _

/-- `setBuf` keeps the form of the buffer. -/
theorem State.setBuf_wf {s : State} (h : Buf.wf s.cfg s.buf) (i v : Nat) (hv : v < 2 ^ s.cfg.w) :
    Buf.wf (s.setBuf i v).cfg (s.setBuf i v).buf := Buf.wf_set h i v hv

/-- Writing a wide register with a value that fits keeps every wide register in its width. -/
theorem State.setWide_fits {s : State} (hb : Buf.wf s.cfg s.buf) (hr : s.regsFit) (r : WReg) (v : Nat)
    (hv : v < 2 ^ s.cfg.w) :
    Buf.wf (s.setWide r v).cfg (s.setWide r v).buf ∧ (s.setWide r v).regsFit := by
  obtain ⟨hn, he, hd, hi, hp⟩ := hr
  cases r with
  | keyN => exact ⟨hb, hv, he, hd, hi, hp⟩
  | keyE => exact ⟨hb, hn, hv, hd, hi, hp⟩
  | keyD => exact ⟨hb, hn, he, hv, hi, hp⟩
  | iv => exact ⟨hb, hn, he, hd, hv, hp⟩
  | prev => exact ⟨hb, hn, he, hd, hi, hv⟩
  | buf i => exact ⟨Buf.wf_set hb i v hv, hn, he, hd, hi, hp⟩

end Sys2Proof.Machine
end

