-- ==== Sys2Proof/Tests/Slice0.lean ====
section
/-! SUPPORT. Tests: words written out bit by bit from 30_encoding.md R91 and R93, ill-formed commands, single steps whose
expected values are the vectors of 95_test_vectors.md, and a witness for the hypotheses of each obligation. -/

namespace Sys2Proof.Tests

open Sys2Proof.Machine

/-! ## Helpers -/

/-- A small block: W = 64, NBUF = 4, the toy key K0 of 95_test_vectors.md (KEY_N = 3233, KEY_E = 17, KEY_D = 2753,
BSIZE = 1), idle, with the given buffer and PREV. -/
def toy (buf : List Nat) (prev : Nat) : State where
  cfg := ⟨64, 4⟩
  buf := buf
  keyN := 3233
  keyE := 17
  keyD := 2753
  iv := 0x1234
  prev := prev
  bs := 1
  cmd := 0
  pending := none
  done := false
  werr := false
  errcode := 0
  errIndex := 0
  doneIE := false
  werrIE := false
  rstN := true
  script := []
  resp := none
  draws := 1

/-- The state a result answers, and the given one if it answers none. -/
def after (r : Result) (s : State) : State :=
  match r with
  | .next t => t
  | .fault _ => s
  | .refused _ => s

/-- One step on the word of a command. -/
def ran (s : State) (w : Nat) : State := after (step (s.withFetchWord 32 w)) s

/-- The buffer, PREV, ERRCODE and ERRINFO.INDEX after one step on a command word. -/
def seen (s : State) (w : Nat) : List Nat × Nat × Nat × Nat :=
  let t := ran s w
  (t.buf, t.prev, t.errcode.toNat, t.errIndex.toNat)

/-- The state with the host's transaction next. -/
def hosts (s : State) (tx : Transaction) : State := { s with script := [.bus tx] }

/-- A block with the command word `w` accepted and not yet completed. -/
def busyToy (w : Word) : State := { toy [72, 105, 1, 7] 90 with cmd := w, pending := some w }

/-! ## Ill-formed commands (R99) -/

theorem test_ill_formed_ecbEnc : (Instr.ecbEnc 256 0).wellFormed = false ∧ (Instr.ecbEnc 0 256).wellFormed = false := by
  decide
theorem test_ill_formed_ecbDec : (Instr.ecbDec 256 0).wellFormed = false ∧ (Instr.ecbDec 0 256).wellFormed = false := by
  decide
theorem test_ill_formed_cbcEnc : (Instr.cbcEnc 256 0).wellFormed = false ∧ (Instr.cbcEnc 0 256).wellFormed = false := by
  decide
theorem test_ill_formed_cbcDec : (Instr.cbcDec 256 0).wellFormed = false ∧ (Instr.cbcDec 0 256).wellFormed = false := by
  decide
theorem test_ill_formed_modexp :
    (Instr.modexp .keyE 256 0).wellFormed = false ∧ (Instr.modexp .keyE 0 256).wellFormed = false := by decide
theorem test_ill_formed_montmul :
    (Instr.montmul 256 0 0).wellFormed = false ∧ (Instr.montmul 0 256 0).wellFormed = false ∧
      (Instr.montmul 0 0 256).wellFormed = false := by decide
theorem test_assembler_refuses : assemble (.ecbEnc 0 256) = none ∧ assemble (.ecbEnc 0 255) = some 0x00FF0004 := by decide

/-! ## Decoding, fields C, B, A, RSV, X, OP from the most significant bit (R91) -/

theorem test_decode_nop : decode (0b00000000#8 ++ 0b00000000#8 ++ 0b00000000#8 ++ 0b000#3 ++ 0b0#1 ++ 0b0000#4) = .ok .nop := by
  decide
theorem test_decode_check :
    decode (0b00000000#8 ++ 0b00000000#8 ++ 0b00000000#8 ++ 0b000#3 ++ 0b0#1 ++ 0b0001#4) = .ok .check := by decide
theorem test_decode_chainInit :
    decode (0b00000000#8 ++ 0b00000000#8 ++ 0b00000000#8 ++ 0b000#3 ++ 0b0#1 ++ 0b0010#4) = .ok .chainInit := by decide
theorem test_decode_ecbEnc :
    decode (0b00000000#8 ++ 0b00000011#8 ++ 0b00001110#8 ++ 0b000#3 ++ 0b0#1 ++ 0b0100#4) = .ok (.ecbEnc 14 3) := by decide
theorem test_decode_ecbDec :
    decode (0b00000000#8 ++ 0b10000001#8 ++ 0b01000010#8 ++ 0b000#3 ++ 0b0#1 ++ 0b0101#4) = .ok (.ecbDec 66 129) := by decide
theorem test_decode_cbcEnc :
    decode (0b00000000#8 ++ 0b00000001#8 ++ 0b00000010#8 ++ 0b000#3 ++ 0b0#1 ++ 0b0110#4) = .ok (.cbcEnc 2 1) := by decide
theorem test_decode_cbcDec :
    decode (0b00000000#8 ++ 0b11111111#8 ++ 0b00000000#8 ++ 0b000#3 ++ 0b0#1 ++ 0b0111#4) = .ok (.cbcDec 0 255) := by decide
theorem test_decode_modexp_e :
    decode (0b00000000#8 ++ 0b00000110#8 ++ 0b00000101#8 ++ 0b000#3 ++ 0b0#1 ++ 0b1000#4) = .ok (.modexp .keyE 5 6) := by decide
theorem test_decode_modexp_d :
    decode (0b00000000#8 ++ 0b00000110#8 ++ 0b00000101#8 ++ 0b000#3 ++ 0b1#1 ++ 0b1000#4) = .ok (.modexp .keyD 5 6) := by decide
theorem test_decode_montmul :
    decode (0b00001000#8 ++ 0b00000111#8 ++ 0b00000001#8 ++ 0b000#3 ++ 0b0#1 ++ 0b1001#4) = .ok (.montmul 1 7 8) := by decide
/-- V-DEC-1, V-DEC-2: reserved opcodes. -/
theorem test_decode_reserved : decode 0x00000003 = .error .reservedOpcode ∧ decode 0x0000000F = .error .reservedOpcode := by
  decide
/-- V-DEC-3, V-DEC-4, V-DEC-5, V-DEC-6: fields that must be 0. -/
theorem test_decode_must_be_zero :
    decode 0x00000011 = .error .selectNotZero ∧ decode 0x00000100 = .error .operandNotZero ∧
      decode 0x00000024 = .error .reservedBits ∧ decode 0x01010004 = .error .destNotZero := by decide
/-- V-DEC-7, V-DEC-8: C is checked before any index; MONTMUL with all indices 255 decodes. -/
theorem test_decode_before_index :
    decode 0xFFFFFF18 = .error .destNotZero ∧ decode 0xFFFFFF09 = .ok (.montmul 255 255 255) := by decide
/-- R99: the assembler text, destination first. -/
theorem test_asm_text :
    asmText (.modexp .keyD 1 2) = "modexp.d b2, b1" ∧ asmText (.montmul 0 1 2) = "montmul b2, b0, b1" ∧
      asmText (.cbcEnc 2 1) = "cbc.enc b2, 1" := by decide

/-! ## Control commands (R111 to R113) -/

/-- V-CTL-1: STATUS = 0x34 becomes 0x06 at completion of NOP: ERRCODE 0, WERR kept, DONE set. -/
theorem test_nop : (ran { toy [0, 0, 0, 0] 0 with errcode := 3, werr := true } 0x00000000).statusWord = 0x06 := by decide
/-- V-CTL-2 to V-CTL-4: BS = 1 is valid, BS = 2 is not (16 >= 12), BS = 0 is not. -/
theorem test_check :
    (ran (toy [] 0) 0x00000001).errcode = 0 ∧ (ran { toy [] 0 with bs := 2 } 0x00000001).errcode = 3 ∧
      (ran { toy [] 0 with bs := 0 } 0x00000001).errcode = 3 := by decide
/-- V-CTL-7, V-CTL-8 (S2), V-CTL-5, V-CTL-6: a 128-bit modulus with 16 and 15 bytes, KEY_N = 0, an even KEY_N. -/
theorem test_check_bounds :
    (ran { toy [] 0 with keyN := 2 ^ 127 + 1, bs := 16 } 1).errcode = 3 ∧
      (ran { toy [] 0 with keyN := 2 ^ 127 + 1, bs := 15 } 1).errcode = 0 ∧
      (ran { toy [] 0 with keyN := 0 } 1).errcode = 3 ∧ (ran { toy [] 0 with keyN := 3234 } 1).errcode = 0 := by decide
/-- V-CTL-9. -/
theorem test_chainInit : seen (toy [] 7) 0x00000002 = ([], 0x34, 0, 0) := by decide
/-- V-CTL-10: BLOCKSIZE leaves PREV. -/
theorem test_chainInit_error : seen { toy [] 7 with bs := 2 } 0x00000002 = ([], 7, 3, 0) := by decide

/-! ## The engine (R133, R134) -/

/-- V-ENG-1, V-ENG-4: the source's known vector, and BLOCKRANGE naming SRC. -/
theorem test_modexp_e :
    seen (toy [65, 7, 7, 7] 0) 0x00010008 = ([65, 2790, 7, 7], 0, 0, 0) ∧
      seen (toy [65, 3298, 7, 7] 0) 0x00020108 = ([65, 3298, 7, 7], 0, 5, 1) := by decide
/-- V-ENG-5, V-ENG-10: decryption reduces its input; SRC = DST. -/
theorem test_modexp_d :
    seen (toy [3298, 7, 7, 7] 0) 0x00010018 = ([3298, 588, 7, 7], 0, 0, 0) ∧
      seen (toy [2790, 7, 7, 7] 0) 0x00000008 = ([1452, 7, 7, 7], 0, 0, 0) := by decide
/-- V-MM-6, V-MM-8 (W = 64). -/
theorem test_montmul :
    seen (toy [65, 1, 7, 7] 0) 0x02010009 = ([65, 1, 3096, 7], 0, 0, 0) ∧
      seen (toy [65, 65, 7, 7] 0) 0x02010009 = ([65, 65, 794, 7], 0, 0, 0) := by decide
/-- V-MM-10, V-MM-11: the operand at fault is named, whichever it is. -/
theorem test_montmul_range :
    seen (toy [65, 3233, 7, 7] 0) 0x02000109 = ([65, 3233, 7, 7], 0, 5, 1) ∧
      seen (toy [65, 3233, 7, 7] 0) 0x02010009 = ([65, 3233, 7, 7], 0, 5, 1) := by decide
/-- R136, R137: the datapath on V-MM-7 and V-ENG-1. -/
theorem test_datapath : montgomeryMult 64 65 1232 3233 = 2565 ∧ modexpPipeline 64 65 17 3233 = 2790 := by decide +kernel

/-! ## ECB (R150, R151) -/

/-- V-ECB-1, V-ECB-3: a run, and BLOCKRANGE at block 1 with block 0 done. -/
theorem test_ecbEnc :
    seen (toy [65, 65, 7, 7] 0) 0x00020004 = ([2790, 2790, 7, 7], 0, 0, 0) ∧
      seen (toy [65, 3300, 66, 7] 0) 0x00030004 = ([2790, 3300, 66, 7], 0, 5, 1) := by decide
/-- V-ECB-4 to V-ECB-6 and V-ECB-9 with NBUF = 4: the ends of the run, and BLOCKSIZE before MODULUS. -/
theorem test_ecbEnc_checks :
    seen (toy [1, 2, 3, 4] 0) 0x00030204 = ([1, 2, 3, 4], 0, 2, 0) ∧
      seen (toy [1, 2, 3, 4] 0) 0x00000404 = ([1, 2, 3, 4], 0, 0, 0) ∧
      seen (toy [1, 2, 3, 4] 0) 0x00000504 = ([1, 2, 3, 4], 0, 2, 0) ∧
      seen { toy [1, 2, 3, 4] 0 with keyN := 3234, bs := 2 } 0x00010004 = ([1, 2, 3, 4], 0, 3, 0) ∧
      seen { toy [1, 2, 3, 4] 0 with keyN := 3234 } 0x00010004 = ([1, 2, 3, 4], 0, 4, 0) := by decide
/-- V-ECB-2, V-ECB-10: decryption, and with a wrong key a value above the mask. -/
theorem test_ecbDec :
    seen (toy [2790, 7, 7, 7] 0) 0x00010005 = ([65, 7, 7, 7], 0, 0, 0) ∧
      seen { toy [2790, 7, 7, 7] 0 with keyD := 17 } 0x00010005 = ([1452, 7, 7, 7], 0, 0, 0) := by decide

/-! ## CBC (R171, R172) -/

/-- V-CBC-4, V-CBC-10: the chain of V-CBC-1, and BLOCKRANGE at block 1. -/
theorem test_cbcEnc :
    seen (toy [72, 105, 1, 7] 90) 0x00030006 = ([2100, 589, 2726, 7], 166, 0, 0) ∧
      seen (toy [72, 3300, 1, 7] 90) 0x00030006 = ([2100, 3300, 1, 7], 52, 5, 1) := by decide
/-- V-CBC-8, V-CBC-9, V-CBC-11: no block finished, PREV kept as it was. -/
theorem test_cbcEnc_no_block :
    seen (toy [3300, 7, 7, 7] 0) 0x00010006 = ([3300, 7, 7, 7], 0, 5, 0) ∧
      seen (toy [3300, 7, 7, 7] 0x40) 0x00010006 = ([3300, 7, 7, 7], 0x40, 5, 0) ∧
      seen (toy [7, 7, 7, 7] 0x109) 0x00000006 = ([7, 7, 7, 7], 0x109, 0, 0) := by decide
/-- V-CBC-7: PREV is masked on entry. -/
theorem test_cbcDec : seen (toy [2100, 589, 2726, 7] 0x15A) 0x00030007 = ([72, 105, 1, 7], 166, 0, 0) := by decide
/-- V-CBC-6: a wrong IV spoils the first block alone. -/
theorem test_cbcDec_wrong_iv : seen (toy [2100, 589, 2726, 7] 0) 0x00030007 = ([18, 105, 1, 7], 166, 0, 0) := by decide

/-! ## The bus and the schedule (20_memory.md, 60_exceptions.md, 70_reset_and_hazards.md) -/

/-- V-BUS-1, V-BUS-2 (W = 256, NBUF = 16). -/
theorem test_read_constants :
    State.reset.readWord .id = 0x52534131 ∧ State.reset.readWord .param = 0x01100100 := by decide
/-- V-BUS-3, V-BUS-4 and V-BUS-5 with W = 64 and NBUF = 4: misaligned, past NW, past NBUF. -/
theorem test_bus_errors :
    (after (step (hosts (toy [] 0) ⟨false, 0x0002, 2, 0⟩)) (toy [] 0)).resp = some ⟨some 0, true⟩ ∧
      (after (step (hosts (toy [] 0) ⟨false, 0x1008, 2, 0⟩)) (toy [] 0)).resp = some ⟨some 0, true⟩ ∧
      (after (step (hosts (toy [] 0) ⟨false, 0x8800, 2, 0⟩)) (toy [] 0)).resp = some ⟨some 0, true⟩ := by decide
/-- V-BUS-6: BSIZE stores 10 bits. -/
theorem test_bsize_write :
    (after (step (hosts (toy [] 0) ⟨true, 0x0008, 2, 0xFFFFFFFF⟩)) (toy [] 0)).bsizeWord = 0x000003FF := by decide
/-- V-BUS-8: writing word 1 of KEY_N. -/
theorem test_wide_write :
    (after (step (hosts { toy [] 0 with keyN := 0 } ⟨true, 0x1004, 2, 1⟩)) (toy [] 0)).keyN = 2 ^ 32 := by decide
/-- V-BUS-9, V-BUS-10: W1C of DONE alone, and the interrupt line. -/
theorem test_status_write :
    (after (step (hosts { toy [] 0 with done := true, werr := true } ⟨true, 0x0010, 2, 2⟩)) (toy [] 0)).statusWord = 4 ∧
      ({ toy [] 0 with done := true, doneIE := true } : State).irq = true := by decide
/-- V-BUS-11, V-BUS-12, V-BUS-13: while busy a BUF write is dropped, a BUF word reads as 0, a KEY_N word as itself. -/
theorem test_busy_access :
    (after (step (hosts (busyToy 0) ⟨true, 0x8000, 2, 7⟩)) (toy [] 0)).buf = [72, 105, 1, 7] ∧
      (after (step (hosts (busyToy 0) ⟨true, 0x8000, 2, 7⟩)) (toy [] 0)).werr = true ∧
      (after (step (hosts (busyToy 0) ⟨false, 0x8000, 2, 0⟩)) (toy [] 0)).resp = some ⟨some 0, false⟩ ∧
      (after (step (hosts (busyToy 0) ⟨false, 0x1000, 2, 0⟩)) (toy [] 0)).resp = some ⟨some 3233, false⟩ := by decide
/-- P3 step 6: both outcomes of a write that follows a command at once. -/
theorem test_schedules :
    ((toy [] 0).play [cmdWrite .nop, .engine, wr .bsize 2]).bs = 2 ∧
      ((toy [] 0).play [cmdWrite .nop, .engine, wr .bsize 2]).werr = false ∧
      ((toy [] 0).play [cmdWrite .nop, wr .bsize 2, .engine]).bs = 1 ∧
      ((toy [] 0).play [cmdWrite .nop, wr .bsize 2, .engine]).werr = true := by decide
/-- R250: a reset aborts the pending command. -/
theorem test_reset_aborts :
    (after (step { busyToy 0 with script := [.resetLow] }) (toy [] 0)).statusWord = 0 ∧
      (after (step { busyToy 0 with script := [.resetLow] }) (toy [] 0)).keyN = 0 := by decide
/-- The first step after reset runs the word placed by `withFetchWord`: a command whose index is out of range, and one
on a key of 0, which is even. -/
theorem test_first_step :
    (ran State.reset 0x00001104).errcode = 2 ∧ (ran State.reset 0x00010008).errcode = 4 := by decide
/-- R252: after reset, with nothing placed, the block waits. -/
theorem test_reset_is_idle : step State.reset = .next State.reset := rfl
theorem test_decodeTableWord :
    decodeTableWord 32 0x00030E04 = some (.ecbEnc 14 3) ∧ decodeTableWord 32 0x0000000A = none := by decide

/-! ## The host's procedures (45_host.md) -/

/-- S4: a full extra block of padding. -/
theorem test_padding :
    paddingLen 16 32 = 16 ∧ textToBlocks ['H', 'i'] 1 = .ok [72, 105, 1] ∧ textToBlocks [] 4 = .ok [0x04040404] := by
  decide +kernel
/-- R190, C2: the toy primes give d = 2753 for e = 65537. -/
theorem test_keygen : keygen 61 [61, 53] = .ok ⟨3233, 65537, 2753⟩ := by decide +kernel
/-- R194: U+20AC in UTF-8, and an overlong form refused. -/
theorem test_utf8 : utf8Char '€' = [0xE2, 0x82, 0xAC] ∧ utf8Decode [0xC0, 0x80] = .error .decodeText := by decide +kernel
/-- R253: boot with K0 ends with CHECK as the last command, ERRCODE 0 and the key loaded, and the host knows W and NBUF.
Once from an idle block, and once with a NOP pending, which it awaits. -/
theorem test_boot :
    ([none, some 0].map fun pending =>
      (State.bootKey { toy [0, 0] 0 with keyN := 0, bs := 0, pending, cmd := 0, cfg := ⟨64, 2⟩ } ⟨3233, 17, 2753⟩ 1).toOption.map
        (fun x => (x.1, [x.2.keyN, x.2.keyE, x.2.keyD], x.2.bs, x.2.cmd, x.2.statusWord))) =
      [some (⟨64, 2⟩, [3233, 17, 2753], 1, 1, 0), some (⟨64, 2⟩, [3233, 17, 2753], 1, 1, 0)] := by decide +kernel
/-- R253, steps 5 to 7, with the IV 0x5A of P2; and an entry that the block does not have is refused. -/
theorem test_boot_whole :
    (State.boot { toy [0, 0] 0 with keyN := 0, bs := 0, cfg := ⟨64, 2⟩ } ⟨3233, 17, 2753⟩ 1 (some 0x5A) [(1, 72)]
        (some 3)).toOption.map
      (fun x => (x.2.iv, x.2.prev, x.2.buf, x.2.cmd, x.2.irqEnWord)) = some (0x5A, 0x5A, [0, 72], 2, 3) ∧
      (State.boot { toy [0, 0] 0 with cfg := ⟨64, 2⟩ } ⟨3233, 17, 2753⟩ 1 none [(2, 72)] none).toOption.isSome = false := by
  decide +kernel
/-- R250, U12: while rst_n is low a command gets no answer, and the host does not take that for success. -/
theorem test_host_in_reset :
    (match { toy [0, 0, 0, 0] 0 with rstN := false }.hostCommand .nop with
      | .ok _ => none
      | .error e => some e) = some .noResponse := by decide
/-- P2: "Hi" under K0 with IV 0x5A, in chunks of at most 2 blocks (D3). -/
theorem test_encrypt_text :
    (encryptTextCBC ⟨64, 2⟩ ['H', 'i'] 17 3233 1 ⟨0x5A, by decide⟩ { toy [0, 0] 0 with cfg := ⟨64, 2⟩ }).toOption.map (·.1) =
      some (0x5A, [2100, 589, 2726]) := by decide +kernel
/-- P2: and back. -/
theorem test_decrypt_text :
    (decryptTextCBC ⟨64, 2⟩ [2100, 589, 2726] 2753 3233 0x5A 1 { toy [0, 0] 0 with cfg := ⟨64, 2⟩ }).toOption.map (·.1) =
      some ['H', 'i'] := by decide +kernel

end Sys2Proof.Tests
end

