-- ==== Sys2Proof/Tests/Witness.lean ====
section
/-! SUPPORT. For every obligation with hypotheses, a named theorem that shows a concrete state and operands that meet all
of them together, one for each clause at a boundary of its range. -/

namespace Sys2Proof.Tests

open Sys2Proof.Machine

/-- A small block in the form, with three toy blocks. -/
def plain : State := toy [72, 105, 1, 7] 90

/-- Waiting for the first of two events of the host and the engine. -/
def queued (s : State) (tx : Transaction) : State := { s with script := [.bus tx, .engine] }

theorem witness_plain_wf : plain.Wf ∧ (busyToy 0).Wf := by
  constructor <;> decide

/-! ## Encoding -/

theorem witness_EncodeThenDecode :
    (Instr.montmul 255 255 255).wellFormed = true ∧ (Instr.cbcDec 0 255).wellFormed = true ∧
      (Instr.modexp .keyD 255 0).wellFormed = true ∧ Instr.nop.wellFormed = true := by decide

theorem witness_DecodeThenEncode : decode 0xFFFFFF09 = .ok (.montmul 255 255 255) := by decide

/-- ILLEGAL on both sides of the reserved range, and each must-be-0 field; then the two words next to them. -/
theorem witness_DecodeFollowsR94 :
    IllegalFields 0x3 0 0 0 0 0 ∧ IllegalFields 0xA 0 0 0 0 0 ∧ IllegalFields 0xF 0 0 0 0 0 ∧ IllegalFields 4 0 1 0 0 0 ∧
      IllegalFields 9 1 0 0 0 0 ∧ IllegalFields 2 0 0 0 0 1 ∧ IllegalFields 8 1 0 0 0 1 ∧ ¬IllegalFields 9 0 0 0 0 255 ∧
      ¬IllegalFields 8 1 0 255 255 0 ∧ (busyToy 3).rstN = true ∧ (busyToy 3).script = [] ∧
      (busyToy 3).pending = some 3 := by
  refine ⟨?_, ?_, ?_, ?_, ?_, ?_, ?_, ?_, ?_, ?_, ?_, ?_⟩ <;> decide

theorem witness_ReservedOpcodeIsIllegal :
    (queued plain ⟨true, 0x000C, 2, 0xA⟩).hostMoves ⟨true, 0x000C, 2, 0xA⟩ [.engine] ∧
      (queued plain ⟨true, 0x000C, 2, 0xA⟩).pending = none ∧
      bits 0xA 3 0 ∈ [0x3, 0xA, 0xB, 0xC, 0xD, 0xE, 0xF] := by decide

/-! ## The register bus -/

theorem witness_CmdWriteAccepts :
    ((hosts plain ⟨true, 0x000C, 2, 1⟩).hostMoves ⟨true, 0x000C, 2, 1⟩ [] ∧ plain.pending = none) ∧
      (hosts (busyToy 0) ⟨true, 0x000C, 2, 1⟩).hostMoves ⟨true, 0x000C, 2, 1⟩ [] ∧
      (hosts (busyToy 0) ⟨true, 0x000C, 2, 1⟩).pending.isSome = true := by decide

/-- A legal address of every branch: STATUS, IRQ_EN, the three read-only words, and the dropped ones at the ends of
their windows. -/
theorem witness_WritesWhileBusy :
    ∀ a ∈ [(0x0010 : Addr), 0x0018, 0x0000, 0x0004, 0x0014, 0x0008, 0x000C, 0x1000, 0x1004, 0x1804, 0x8000, 0x8604],
      (busyToy 0).cfg.Ok ∧ (busyToy 0).pending.isSome = true ∧
        (hosts (busyToy 0) ⟨true, a, 2, 7⟩).hostMoves ⟨true, a, 2, 7⟩ [] ∧
        Transaction.Legal (busyToy 0).cfg ⟨true, a, 2, 7⟩ := by
  intro a ha
  fin_cases ha <;> refine ⟨?_, ?_, ?_, ?_⟩ <;> decide +kernel

/-- Hidden words while busy, a key word while busy, and the last BUF word while idle. -/
theorem witness_ReadsWhileBusy :
    (busyToy 0).cfg.Ok ∧ Target.Exists (busyToy 0).cfg (.wide .prev 1) ∧ Target.Exists (busyToy 0).cfg (.wide (.buf 3) 1) ∧
      Target.Exists (busyToy 0).cfg (.wide .keyD 0) ∧ (busyToy 0).pending.isSome = true ∧
      (hosts (busyToy 0) ⟨false, 0x1804, 2, 0⟩).hostMoves
        ⟨false, BitVec.ofNat 16 (Target.address (.wide .prev 1)), 2, 0⟩ [] ∧
      (hosts (busyToy 0) ⟨false, 0x1400, 2, 0⟩).hostMoves
        ⟨false, BitVec.ofNat 16 (Target.address (.wide .keyD 0)), 2, 0⟩ [] ∧
      (hosts plain ⟨false, 0x8604, 2, 0⟩).hostMoves
        ⟨false, BitVec.ofNat 16 (Target.address (.wide (.buf 3) 1)), 2, 0⟩ [] := by decide

/-- A legal transaction, and one that fails each condition of R62. -/
theorem witness_BusErrors :
    plain.cfg.Ok ∧ (hosts plain ⟨true, 0x8604, 2, 0⟩).hostMoves ⟨true, 0x8604, 2, 0⟩ [] ∧
      Transaction.Legal plain.cfg ⟨true, 0x8604, 2, 0⟩ ∧ ¬Transaction.Legal plain.cfg ⟨true, 0x8604, 1, 0⟩ ∧
      ¬Transaction.Legal plain.cfg ⟨true, 0x8606, 2, 0⟩ ∧ ¬Transaction.Legal plain.cfg ⟨true, 0x8608, 2, 0⟩ ∧
      ¬Transaction.Legal plain.cfg ⟨false, 0x8800, 2, 0⟩ ∧ ¬Transaction.Legal plain.cfg ⟨false, 0x001C, 2, 0⟩ := by
  refine ⟨?_, ?_, ?_, ?_, ?_, ?_, ?_, ?_⟩ <;> decide +kernel

theorem witness_ReadsChangeNothing : (hosts plain ⟨false, 0x0010, 2, 0⟩).hostMoves ⟨false, 0x0010, 2, 0⟩ [] := by decide

/-- The two extreme configurations; the last word of the largest one ends the address space. -/
theorem witness_AddressMapIsExact :
    Config.Ok ⟨64, 1⟩ ∧ Config.Ok ⟨4096, 64⟩ ∧ Target.Exists ⟨4096, 64⟩ (.wide (.buf 63) 127) ∧
      Target.address (.wide (.buf 63) 127) = 0xFFFC ∧ addrTarget ⟨4096, 64⟩ 0xFFFC = some (.wide (.buf 63) 127) ∧
      addrTarget ⟨64, 1⟩ 0x8200 = none := by
  refine ⟨?_, ?_, ?_, ?_, ?_, ?_⟩ <;> decide +kernel

theorem witness_ControlRegisterReads :
    plain.cfg.Ok ∧
      ∀ t ∈ [Target.id, .param, .bsize, .cmd, .status, .errinfo, .irqEn],
        (hosts plain ⟨false, BitVec.ofNat 16 t.address, 2, 0⟩).hostMoves ⟨false, BitVec.ofNat 16 t.address, 2, 0⟩ [] ∧
          ∀ r k, t ≠ .wide r k := by
  refine ⟨by decide, fun t ht => ⟨⟨rfl, rfl⟩, fun r k h => ?_⟩⟩
  subst h
  simp at ht

theorem witness_ControlRegisterWrites :
    plain.pending = none ∧
      ∀ a ∈ [(0x0008 : Addr), 0x0010, 0x0018, 0x0000, 0x0004, 0x0014],
        (hosts plain ⟨true, a, 2, 0xFFFFFFFF⟩).hostMoves ⟨true, a, 2, 0xFFFFFFFF⟩ [] := by
  refine ⟨by decide, fun a ha => ?_⟩
  fin_cases ha <;> exact ⟨rfl, rfl⟩

/-- The first and the last word of registers of both kinds. -/
theorem witness_WideRegisterWords :
    (hosts plain ⟨true, 0x8604, 2, 9⟩).Wf ∧ (hosts plain ⟨true, 0x8604, 2, 9⟩).pending = none ∧
      Target.Exists plain.cfg (.wide (.buf 3) 1) ∧ Target.Exists plain.cfg (.wide .keyN 0) ∧
      (hosts plain ⟨true, 0x8604, 2, 9⟩).hostMoves
        ⟨true, BitVec.ofNat 16 (Target.address (.wide (.buf 3) 1)), 2, 9⟩ [] ∧
      (hosts plain ⟨false, 0x1000, 2, 9⟩).hostMoves
        ⟨false, BitVec.ofNat 16 (Target.address (.wide .keyN 0)), 2, 9⟩ [] := by decide

theorem witness_BusyHidesOperands :
    (hosts (busyToy 0) ⟨false, 0x8000, 2, 0⟩).pending.isSome = true ∧
      (hosts (busyToy 0) ⟨false, 0x8000, 2, 0⟩).script = [.bus ⟨false, 0x8000, 2, 0⟩] := by decide

theorem witness_WholeRegisterWrite :
    plain.Wf ∧ plain.rstN = true ∧ plain.pending = none ∧ (∀ i, WReg.buf 3 = .buf i → i < plain.cfg.nbuf) ∧
      2 ^ 64 - 1 < 2 ^ plain.cfg.w := by
  refine ⟨by decide, rfl, rfl, fun i h => ?_, by decide⟩
  obtain rfl : 3 = i := by simpa using h
  decide

/-! ## Control commands and the engine -/

theorem witness_sizeValid :
    plain.sizeValid ∧ ¬{ plain with bs := 2 }.sizeValid ∧ ¬{ plain with bs := 0 }.sizeValid ∧
      { plain with keyN := 256 }.sizeValid ∧ ¬{ plain with keyN := 255 }.sizeValid := by decide

theorem witness_ValidSizeBoundsMask : { plain with keyN := 256 }.Wf ∧ { plain with keyN := 256 }.sizeValid := by decide

theorem witness_ModexpComputesPower :
    plain.Wf ∧ 0 < plain.cfg.nbuf ∧ 3 < plain.cfg.nbuf ∧ plain.keyN % 2 = 1 ∧
      (ExpSel.keyE = .keyE → plain.bufAt 0 < plain.keyN) := by decide

/-- X = 1 with an input above KEY_N (V-ENG-5). -/
theorem witness_ModexpComputesPower_keyD :
    (toy [3298, 7, 7, 7] 0).Wf ∧ (ExpSel.keyD = .keyE → (toy [3298, 7, 7, 7] 0).bufAt 0 < 3233) ∧
      (toy [3298, 7, 7, 7] 0).keyN ≤ (toy [3298, 7, 7, 7] 0).bufAt 0 := by decide

theorem witness_ModexpErrors :
    (plain.cfg.nbuf ≤ 4 ∨ plain.cfg.nbuf ≤ 0) ∧
      (3 < plain.cfg.nbuf ∧ 0 < plain.cfg.nbuf ∧ { plain with keyN := 3234 }.keyN % 2 = 0) ∧
      (3 < plain.cfg.nbuf ∧ 0 < plain.cfg.nbuf ∧ { plain with keyN := 7 }.keyN % 2 = 1 ∧ ExpSel.keyE = .keyE ∧
        { plain with keyN := 7 }.keyN ≤ { plain with keyN := 7 }.bufAt 3) := by decide

theorem witness_MontmulComputesProduct :
    plain.Wf ∧ 3 < plain.cfg.nbuf ∧ plain.keyN % 2 = 1 ∧ plain.bufAt 3 < plain.keyN ∧ plain.bufAt 0 < plain.keyN := by decide

theorem witness_MontmulErrors :
    plain.cfg.nbuf ≤ 4 ∧ 3 < plain.cfg.nbuf ∧ { plain with keyN := 3234 }.keyN % 2 = 0 ∧
      ({ plain with keyN := 7 }.keyN % 2 = 1 ∧ { plain with keyN := 7 }.keyN ≤ { plain with keyN := 7 }.bufAt 3) ∧
      ({ plain with keyN := 7 }.keyN % 2 = 1 ∧ { plain with keyN := 7 }.bufAt 2 < { plain with keyN := 7 }.keyN ∧
        { plain with keyN := 7 }.keyN ≤ { plain with keyN := 7 }.bufAt 3) := by decide

theorem witness_MonProIsProductByInverse : (3233 : Nat) % 2 = 1 ∧ 3232 < 3233 := by decide

theorem witness_BitLengthIsUnique : 0 < 3233 ∧ bitLength 3233 = 12 ∧ bitLength 1 = 1 ∧ bitLength 256 = 9 := by decide

theorem witness_MontgomeryMultRefinesMonPro : 64 % 32 = 0 ∧ 3233 % 2 = 1 ∧ 3233 < 2 ^ 64 ∧ 65 < 3233 ∧ 3232 < 3233 := by
  decide

theorem witness_ModexpPipelineRefinesPower : 64 % 32 = 0 ∧ 3233 % 2 = 1 ∧ 3233 < 2 ^ 64 ∧ 1 < 2 ^ 64 := by decide

/-! ## The sequence commands -/

/-- INDEX at NBUF + 1, BLOCKSIZE and MODULUS at START + COUNT = NBUF. -/
theorem witness_SequenceChecksInOrder :
    plain.cfg.nbuf < 4 + 1 ∧ 1 + 3 ≤ plain.cfg.nbuf ∧ ¬{ plain with bs := 2 }.sizeValid ∧
      { plain with keyN := 3234 }.sizeValid ∧ { plain with keyN := 3234 }.keyN % 2 = 0 := by decide

theorem witness_EmptyRunChangesNothing : 4 ≤ plain.cfg.nbuf ∧ plain.sizeValid ∧ plain.keyN % 2 = 1 := by decide

theorem witness_EcbEncEncryptsRun :
    plain.Wf ∧ 1 + 3 ≤ plain.cfg.nbuf ∧ plain.sizeValid ∧ plain.keyN % 2 = 1 ∧
      ∀ i, 1 ≤ i → i < 1 + 3 → plain.bufAt i < plain.keyN := by
  refine ⟨by decide, by decide, by decide, by decide, fun i h1 h2 => ?_⟩
  interval_cases i <;> decide

theorem witness_EcbEncStopsAtRangeError :
    (toy [65, 3233, 1, 7] 0).Wf ∧ 0 + 4 ≤ plain.cfg.nbuf ∧ (toy [65, 3233, 1, 7] 0).sizeValid ∧
      (toy [65, 3233, 1, 7] 0).keyN % 2 = 1 ∧ (∀ i, 0 ≤ i → i < 1 → (toy [65, 3233, 1, 7] 0).bufAt i < 3233) ∧
      (toy [65, 3233, 1, 7] 0).keyN ≤ (toy [65, 3233, 1, 7] 0).bufAt 1 := by
  refine ⟨by decide, by decide, by decide, by decide, fun i h1 h2 => ?_, by decide⟩
  interval_cases i
  decide

theorem witness_EcbDecDecryptsRun : plain.Wf ∧ 0 + 4 ≤ plain.cfg.nbuf ∧ plain.sizeValid ∧ plain.keyN % 2 = 1 := by decide

/-- A full run, and an empty one, whose count of finished blocks is the count of blocks. -/
theorem witness_CbcEncEncryptsRun :
    plain.Wf ∧ 1 + 3 ≤ plain.cfg.nbuf ∧ plain.sizeValid ∧ plain.keyN % 2 = 1 ∧
      (cbcEncChain plain.keyE plain.keyN (mask plain.bs.toNat) (plain.prev &&& mask plain.bs.toNat) (plain.slice 1 3)).2.2 = 3 ∧
      (cbcEncChain plain.keyE plain.keyN (mask plain.bs.toNat) (plain.prev &&& mask plain.bs.toNat) (plain.slice 4 0)).2.2 = 0 := by
  decide

/-- A range error at the first block (V-CBC-8) and at the second (V-CBC-10). -/
theorem witness_CbcEncStopsAtRangeError :
    (toy [3300, 7, 7, 7] 0).Wf ∧ (toy [3300, 7, 7, 7] 0).sizeValid ∧ (toy [72, 3300, 1, 7] 90).Wf ∧
      (cbcEncChain 17 3233 (mask 1) 0 ((toy [3300, 7, 7, 7] 0).slice 0 1)).2.2 = 0 ∧
      (cbcEncChain 17 3233 (mask 1) (90 &&& mask 1) ((toy [72, 3300, 1, 7] 90).slice 0 3)).2.2 = 1 := by
  refine ⟨?_, ?_, ?_, ?_, ?_⟩ <;> decide

theorem witness_CbcEncInRangePlaintext :
    plain.Wf ∧ (∀ i, 0 ≤ i → i < 0 + 4 → plain.bufAt i ≤ mask plain.bs.toNat) ∧
      ∃ t, exec (.cbcEnc 0 4) plain = .next t := by
  refine ⟨by decide, fun i _ h2 => ?_, _, rfl⟩
  interval_cases i <;> decide

theorem witness_EcbEncIsDeterministic :
    (toy [65, 1, 65, 7] 0).Wf ∧
      (∃ t, exec (.ecbEnc 0 1) (toy [65, 1, 65, 7] 0) = .next t ∧ t.errcode = 0) ∧
      (∃ t, exec (.ecbEnc 1 2) (toy [65, 1, 65, 7] 0) = .next t ∧ t.errcode = 0) ∧
      (toy [65, 1, 65, 7] 0).bufAt 0 = (toy [65, 1, 65, 7] 0).bufAt 2 := by
  refine ⟨by decide, ⟨_, rfl, by decide⟩, ⟨_, rfl, by decide⟩, by decide⟩

theorem witness_rsaKey : plain.rsaKey 61 53 := by
  refine ⟨by norm_num, by norm_num, by decide, by decide, by decide⟩

theorem witness_EcbRoundTrip :
    plain.Wf ∧ plain.rsaKey 61 53 ∧ plain.sizeValid ∧ 0 + 4 ≤ plain.cfg.nbuf ∧
      ∀ i, 0 ≤ i → i < 0 + 4 → plain.bufAt i < plain.keyN := by
  refine ⟨by decide, witness_rsaKey, by decide, by decide, fun i _ h2 => ?_⟩
  interval_cases i <;> decide

theorem witness_CbcRoundTrip :
    plain.Wf ∧ plain.rsaKey 61 53 ∧ plain.sizeValid ∧ 0 + 4 ≤ plain.cfg.nbuf ∧
      ∀ i, 0 ≤ i → i < 0 + 4 → plain.bufAt i ≤ mask plain.bs.toNat := by
  refine ⟨by decide, witness_rsaKey, by decide, by decide, fun i _ h2 => ?_⟩
  interval_cases i <;> decide

/-- Where the two clauses meet, 255: the largest block that the mask of one byte holds. -/
theorem witness_CbcRoundTrip_atMask :
    (toy [255, 7, 7, 7] 0).Wf ∧ (toy [255, 7, 7, 7] 0).sizeValid ∧
      ∀ i, 0 ≤ i → i < 0 + 1 → (toy [255, 7, 7, 7] 0).bufAt i ≤ mask (toy [255, 7, 7, 7] 0).bs.toNat := by
  refine ⟨by decide, by decide, fun i _ h2 => ?_⟩
  interval_cases i
  decide

/-- And 256: the smallest block above the mask; it is encrypted without an error. -/
theorem witness_CbcRoundTrip_aboveMask :
    (toy [256, 7, 7, 7] 0).Wf ∧ mask (toy [256, 7, 7, 7] 0).bs.toNat < (toy [256, 7, 7, 7] 0).bufAt 0 ∧
      ∃ t u, exec (.cbcEnc 0 1) (toy [256, 7, 7, 7] 0) = .next t ∧ t.errcode = 0 ∧
        exec (.cbcDec 0 1) { t with prev := 0 } = .next u := by
  refine ⟨by decide, by decide, _, _, rfl, by decide, rfl⟩

/-- The same entries, reloaded between the commands (R201): V-CBC-5's chain with one buffer entry at a time. -/
theorem witness_ChainAcrossCommands :
    plain.Wf ∧
      (∃ t u, exec (.cbcEnc 0 2) plain = .next t ∧ t.errcode = 0 ∧ { t with buf := [1, 7, 7, 7] }.Wf ∧
        exec (.cbcEnc 0 1) { t with buf := [1, 7, 7, 7] } = .next u ∧ u.errcode = 0) ∧
      ∃ t u, exec (.cbcDec 0 2) plain = .next t ∧ t.errcode = 0 ∧ { t with buf := [1, 7, 7, 7] }.Wf ∧
        exec (.cbcDec 0 1) { t with buf := [1, 7, 7, 7] } = .next u ∧ u.errcode = 0 := by
  refine ⟨by decide, ⟨_, _, rfl, by decide, by decide, rfl, by decide⟩, _, _, rfl, by decide, by decide, rfl, by decide⟩

theorem witness_DifferentChainsDiffer :
    plain.Wf ∧ plain.rsaKey 61 53 ∧ 91 < 2 ^ plain.cfg.w ∧
      plain.prev &&& mask plain.bs.toNat ≠ 91 &&& mask plain.bs.toNat ∧
      (∃ t, exec (.cbcEnc 0 1) plain = .next t ∧ t.errcode = 0) ∧
      ∃ u, exec (.cbcEnc 0 1) { plain with prev := 91 } = .next u ∧ u.errcode = 0 := by
  refine ⟨by decide, witness_rsaKey, by decide, by decide, ⟨_, rfl, by decide⟩, _, rfl, by decide⟩

/-! ## Every command -/

theorem witness_CommandFrame : ∃ t, exec (.cbcDec 0 4) plain = .next t := ⟨_, rfl⟩

theorem witness_BufferFrame :
    (∃ t, exec (.ecbDec 1 2) plain = .next t) ∧ ¬(Instr.ecbDec 1 2).writes 0 ∧ ¬(Instr.ecbDec 1 2).writes 3 ∧
      ¬(Instr.montmul 0 1 2).writes 0 ∧ ¬Instr.nop.writes 0 := by
  refine ⟨⟨_, rfl⟩, ?_, ?_, ?_, ?_⟩ <;> simp [Instr.writes]

theorem witness_ChainRegisterFrame :
    (∃ t, exec (.ecbEnc 0 4) plain = .next t) ∧ (Instr.ecbEnc 0 4).writesPrev = false := ⟨⟨_, rfl⟩, rfl⟩

theorem witness_ErrorCodesOfCommands : ∃ t, exec .check { plain with bs := 2 } = .next t ∧ t.errcode = 3 :=
  ⟨_, rfl, by decide⟩

/-- A command without BLOCKRANGE, and one with it at a nonzero index. -/
theorem witness_ErrinfoNamesFailedBlock :
    plain.Wf ∧ (∃ t, exec .nop plain = .next t ∧ t.errcode ≠ 5) ∧ (toy [72, 3300, 1, 7] 90).Wf ∧
      ∃ t, exec (.cbcEnc 0 3) (toy [72, 3300, 1, 7] 90) = .next t ∧ t.errcode = 5 := by
  refine ⟨by decide, ⟨_, rfl, by decide⟩, by decide, _, rfl, by decide⟩

/-! ## The step -/

theorem witness_StepRunsDecodedCommand :
    (busyToy 1).rstN = true ∧ (busyToy 1).pending = some 1 ∧ decode 1 = .ok .check ∧ (busyToy 1).script = [] ∧
      { busyToy 1 with script := [.engine] }.script = .engine :: [] := by decide

theorem witness_IdleBlockKeepsState :
    plain.pending = none ∧ plain.script = [] ∧ { plain with script := [.engine] }.script = .engine :: [] := by decide

theorem witness_ResetSetsRegisters : { busyToy 1 with script := [.resetLow] }.script = .resetLow :: [] := rfl

theorem witness_ResetHoldsBlock :
    { plain with rstN := false }.rstN = false ∧
      ({ plain with rstN := false, script := [.bus ⟨false, 0, 2, 0⟩] } : State).script = .bus ⟨false, 0, 2, 0⟩ :: [] ∧
      ({ plain with rstN := false, script := [.engine] } : State).script = .engine :: [] ∧
      ({ plain with rstN := false, script := [] } : State).script = [] ∧
      ({ plain with rstN := false, script := [.resetHigh] } : State).script = .resetHigh :: [] := by decide

theorem witness_InterruptLine :
    { plain with done := true, doneIE := true }.irq = true ∧
      (hosts plain ⟨true, 0x0010, 2, 0x6⟩).hostMoves ⟨true, 0x0010, 2, 0x6⟩ [] := by decide

/-- States in the form whose next step is a command, a bus write and a reset. -/
theorem witness_StepKeepsForm :
    ((busyToy 6).Wf ∧ ∃ t, step (busyToy 6) = .next t) ∧
      ((hosts plain ⟨true, 0x8604, 2, 0xFFFFFFFF⟩).Wf ∧
        ∃ t, step (hosts plain ⟨true, 0x8604, 2, 0xFFFFFFFF⟩) = .next t) ∧
      { plain with script := [.resetLow] }.Wf ∧ ∃ t, step { plain with script := [.resetLow] } = .next t :=
  ⟨⟨by decide, _, rfl⟩, ⟨by decide, _, rfl⟩, by decide, _, rfl⟩

/-- A valid and an ILLEGAL command pending behind a host's transaction; and an empty script. -/
theorem witness_PendingCommandCompletes :
    { busyToy 6 with script := [.bus ⟨true, 0x000C, 2, 0⟩, .engine] }.Wf ∧ (busyToy 6).Wf ∧ (busyToy 3).Wf ∧
      (busyToy 6).pending = some 6 ∧ Event.resetLow ∉ [Event.bus ⟨true, 0x000C, 2, 0⟩, .engine] ∧
      decode 6 = .ok (.cbcEnc 0 0) ∧ decode 3 = .error .reservedOpcode := by
  refine ⟨?_, ?_, ?_, ?_, ?_, ?_, ?_⟩ <;> decide

/-- R203: the ends of the IV's range for a block size of one byte. -/
theorem witness_IvDraw : IvDraw 1 0 ∧ IvDraw 1 255 ∧ ¬IvDraw 1 256 := by decide

/-! ## The host -/

/-- The padding ceiling at 256, just below it, and the smallest block size. -/
theorem witness_CodecRoundTrip :
    1 ≤ 256 ∧ 256 ≤ 256 - (utf8Encode []).length % 256 ∧ 257 - (utf8Encode ['A', 'A']).length % 257 < 256 ∧
      1 - (utf8Encode ['H', 'i']).length % 1 < 256 := by decide +kernel

theorem witness_KeygenGivesRsaKey :
    PrimeDraw 6 61 ∧ (∀ q ∈ [61, 53], PrimeDraw 6 q) ∧ ∃ k, keygen 61 [61, 53] = .ok k := by
  have draw61 : PrimeDraw 6 61 := ⟨by norm_num, by decide⟩
  have draw53 : PrimeDraw 6 53 := ⟨by norm_num, by decide⟩
  refine ⟨draw61, fun q hq => ?_, _, rfl⟩
  simp only [List.mem_cons, List.not_mem_nil, or_false] at hq
  rcases hq with rfl | rfl
  · exact draw61
  · exact draw53

end Sys2Proof.Tests
end

namespace Sys2Proof.Machine

/-! ## R12: bitLength -/

/-- R12: `bitLength v` is the one `k` whose powers of two bracket a positive `v`. -/
theorem bitLength_eq_iff {v : Nat} (hv : v ≠ 0) (k : Nat) :
    bitLength v = k ↔ 1 ≤ k ∧ 2 ^ (k - 1) ≤ v ∧ v < 2 ^ k := by
  rw [bitLength, if_neg hv]
  cases k with
  | zero => simp
  | succ k => simp [Nat.log2_eq_iff hv]

/-- Settles O26: for positive `v`, `Nat.log2` is the exponent of the lower power. -/
theorem bitLengthIsUnique : Obligations.BitLengthIsUnique :=
  ⟨rfl, fun _ k hv => bitLength_eq_iff hv.ne' k⟩

/-! ## Rules about the shared operations -/

/-- R98: the index check. -/
theorem State.indexOK_iff (s : State) (i : Nat) : s.indexOK i = true ↔ i < s.cfg.nbuf := by
  simp [State.indexOK]

/-- R98: the check of a run. -/
theorem State.runOK_iff (s : State) (start count : Nat) :
    s.runOK start count = true ↔ start + count ≤ s.cfg.nbuf := by
  simp [State.runOK]

/-- R224: the error that ends a run is raised by the body on one of the run's blocks. -/
theorem forBlocks_raised {body : Nat → State → CmdEnd} {code : ErrCode} {j : Nat} {t : State} :
    ∀ k i s, forBlocks body k i s = .raised code j t →
      ∃ m u, i ≤ m ∧ m < i + k ∧ body m u = .raised code j t
  | 0, _, _, h => by cases h
  | k + 1, i, s, h => by
    unfold forBlocks at h
    split at h
    · rename_i u _
      obtain ⟨m, v, lo, hi, raised⟩ := forBlocks_raised k (i + 1) u h
      exact ⟨m, v, by omega, by omega, raised⟩
    · rename_i raised
      exact ⟨i, s, le_rfl, by omega, raised.trans h⟩

/-- R65: a word that a window names is one of the NW words of its register. -/
theorem windowWord_lt {cfg : Config} {base n k : Nat} (h : windowWord cfg base n = some k) : k < cfg.nw := by
  obtain ⟨inside, rfl⟩ := (Option.ite_some_none_eq_some ..).1 h
  omega

/-- R65: a word of the block-buffer region is one of the NW words of its entry. -/
theorem bufWord_lt {cfg : Config} {n k : Nat} {r : WReg} (h : bufWord cfg n = some (.wide r k)) : k < cfg.nw := by
  simp only [bufWord, Option.ite_some_none_eq_some, Target.wide.injEq] at h
  obtain ⟨⟨-, -, hk⟩, -, rfl⟩ := h
  exact hk

/-- R65: a word of a W-bit register that the map names is one of its NW words. -/
theorem windowTarget_lt {cfg : Config} {n k : Nat} {r : WReg} (h : windowTarget cfg n = some (.wide r k)) :
    k < cfg.nw := by
  have inWindow : ∀ {base : Nat} {q : WReg},
      (windowWord cfg base n).map (Target.wide q) = some (Target.wide r k) → k < cfg.nw := by
    intro base q hm
    obtain ⟨k', hk, ⟨⟩⟩ := Option.map_eq_some_iff.1 hm
    exact windowWord_lt hk
  unfold windowTarget at h
  split_ifs at h
  iterate 5 exact inWindow h
  exact bufWord_lt h

/-- R65: a W-bit register stands in the windows, past the 32-bit registers. -/
theorem addrTarget_wide {cfg : Config} {a : Addr} {r : WReg} {k : Nat} (h : addrTarget cfg a = some (.wide r k)) :
    windowTarget cfg a.toNat = some (.wide r k) := by
  simp only [addrTarget] at h
  split_ifs at h <;> simp_all only [Option.some.injEq, reduceCtorEq]

/-- R62, R65: a legal transaction on a W-bit register names one of its NW words. -/
theorem legalTarget_wide_lt {cfg : Config} {tx : Transaction} {r : WReg} {k : Nat}
    (h : legalTarget cfg tx = some (.wide r k)) : k < cfg.nw := by
  obtain ⟨-, mapped⟩ := (Option.ite_none_right_eq_some ..).1 h
  exact windowTarget_lt (addrTarget_wide mapped)

/-! ## The form of the state -/

/-- R250: while rst_n is high nothing binds a register to its reset value. -/
theorem State.resetOk_of_high {s : State} (h : s.rstN = true) : s.resetOk := fun low => by simp [h] at low

/-- R10: the contents of a wide register are in its width. -/
theorem State.wide_lt {s : State} (hb : Buf.wf s.cfg s.buf) (hr : s.regsFit) (r : WReg) : s.wide r < 2 ^ s.cfg.w := by
  obtain ⟨keyN, keyE, keyD, iv, prev⟩ := hr
  cases r with
  | keyN => exact keyN
  | keyE => exact keyE
  | keyD => exact keyD
  | iv => exact iv
  | prev => exact prev
  | buf i => exact State.bufAt_lt hb i

/-- The form of the registers that the body of a command works on, in a block of the parameters `c` with rst_n high.
It leaves out the status registers, which only the end of the command writes. -/
structure State.Running (c : Config) (s : State) : Prop where
  cfg_eq : s.cfg = c
  cfg_ok : s.cfg.Ok
  buf_wf : Buf.wf s.cfg s.buf
  regs_fit : s.regsFit
  high : s.rstN = true

/-- A state of the block's form runs while rst_n is high. -/
theorem State.Wf.running {s : State} (h : s.Wf) (high : s.rstN = true) : s.Running s.cfg :=
  have ⟨ok, buf, regs, _, _⟩ := h
  ⟨rfl, ok, buf, regs, high⟩

namespace State.Running

variable {c : Config} {s : State}

/-- R8: a block has at least one BUF entry. -/
theorem nbuf_pos (h : s.Running c) : 0 < s.cfg.nbuf := by
  obtain ⟨-, -, -, nbuf_pos, -⟩ := h.cfg_ok
  exact nbuf_pos

/-- R10: a wide register or BUF entry is in its width. -/
theorem wide_lt (h : s.Running c) (r : WReg) : s.wide r < 2 ^ s.cfg.w := State.wide_lt h.buf_wf h.regs_fit r

/-- R10: the modulus is in its width. -/
theorem keyN_lt (h : s.Running c) : s.keyN < 2 ^ s.cfg.w := h.wide_lt .keyN

/-- R170: the chaining value is in the width of PREV. -/
theorem chain_lt (h : s.Running c) : s.chain < 2 ^ s.cfg.w := Nat.and_le_left.trans_lt (h.wide_lt .prev)

/-- R131: a transform result is in the width of the modulus. -/
theorem transform_lt (h : s.Running c) (odd : modulusOK s.keyN = true) (v x : Nat) :
    transform v x s.keyN < 2 ^ s.cfg.w :=
  (Machine.transform_lt v x s.keyN odd).trans h.keyN_lt

/-- Storing a value that fits into BUF keeps the form. -/
theorem setBuf (h : s.Running c) (i : Nat) {v : Nat} (hv : v < 2 ^ s.cfg.w) : (s.setBuf i v).Running c :=
  ⟨h.cfg_eq, h.cfg_ok, State.setBuf_wf h.buf_wf i v hv, h.regs_fit, h.high⟩

/-- Storing a value that fits into PREV keeps the form. -/
theorem setPrev (h : s.Running c) {v : Nat} (hv : v < 2 ^ s.cfg.w) : (s.setPrev v).Running c :=
  have ⟨keyN, keyE, keyD, iv, _⟩ := h.regs_fit
  ⟨h.cfg_eq, h.cfg_ok, h.buf_wf, ⟨keyN, keyE, keyD, iv, hv⟩, h.high⟩

/-- R223: completion gives a state of the block's form. -/
theorem complete_wf (h : s.Running c) : s.complete.Wf :=
  ⟨h.cfg_ok, h.buf_wf, h.regs_fit, ⟨by simp, by simpa using h.nbuf_pos, by simp, .inl rfl⟩,
    resetOk_of_high h.high⟩

/-- R224: an error gives a state of the block's form when its index is one of BUF and, unless it is BLOCKRANGE, 0
(R226). -/
theorem raiseError_wf (h : s.Running c) {code : ErrCode} {i : Nat} (hi : i < c.nbuf)
    (hcode : i = 0 ∨ code = .blockRange) : (s.raiseError code i).Wf := by
  have code_le : code.code.toNat ≤ 5 := by cases code <;> decide
  have in_buf : (BitVec.ofNat 8 i).toNat < s.cfg.nbuf := by
    rw [h.cfg_eq, BitVec.toNat_ofNat]
    exact (Nat.mod_le _ _).trans_lt hi
  have only_blockRange : BitVec.ofNat 8 i ≠ 0 → code.code = 5 := by
    rcases hcode with rfl | rfl
    · exact fun nonzero => absurd rfl nonzero
    · exact fun _ => rfl
  exact ⟨h.cfg_ok, h.buf_wf, h.regs_fit, ⟨code_le, in_buf, only_blockRange, .inl rfl⟩, resetOk_of_high h.high⟩

/-- R226: an error with index 0 gives a state of the block's form. -/
theorem raiseError_zero_wf (h : s.Running c) (code : ErrCode) : (s.raiseError code 0).Wf :=
  h.raiseError_wf (h.cfg_eq ▸ h.nbuf_pos) (.inl rfl)

end State.Running

/-! ## The sequence commands keep the form -/

/-- What the body of a sequence command does to the form, in a block of the parameters `c`: with an odd modulus it
keeps the form and an odd modulus, and the one error it raises is BLOCKRANGE at its own block (R226). -/
structure KeepsForm (c : Config) (body : Nat → State → CmdEnd) : Prop where
  running : ∀ i s, s.Running c ∧ modulusOK s.keyN = true →
    (body i s).state.Running c ∧ modulusOK (body i s).state.keyN = true
  raises : ∀ i s code j t, body i s = .raised code j t → code = .blockRange ∧ j = i

/-- R150: a block of ECB_ENC. -/
theorem ecbEncBlock_keepsForm (c : Config) : KeepsForm c ecbEncBlock where
  running i s h := by
    obtain ⟨form, odd⟩ := h
    unfold ecbEncBlock
    split
    · exact ⟨form, odd⟩
    · exact ⟨form.setBuf i (form.transform_lt odd _ _), odd⟩
  raises i s code j t h := by
    unfold ecbEncBlock at h
    split at h
    · cases h; exact ⟨rfl, rfl⟩
    · cases h

/-- R151: a block of ECB_DEC. -/
theorem ecbDecBlock_keepsForm (c : Config) : KeepsForm c ecbDecBlock where
  running i _ h := by
    obtain ⟨form, odd⟩ := h
    exact ⟨form.setBuf i (form.transform_lt odd _ _), odd⟩
  raises _ _ _ _ _ h := by cases h

/-- R171: a block of CBC_ENC. -/
theorem cbcEncBlock_keepsForm (c : Config) : KeepsForm c cbcEncBlock where
  running i s h := by
    obtain ⟨form, odd⟩ := h
    simp only [cbcEncBlock]
    split
    · exact ⟨form, odd⟩
    · have cipher_lt := form.transform_lt odd (s.bufAt i ^^^ s.chain) s.keyE
      exact ⟨(form.setBuf i cipher_lt).setPrev (Nat.and_le_left.trans_lt cipher_lt), odd⟩
  raises i s code j t h := by
    simp only [cbcEncBlock] at h
    split at h
    · cases h; exact ⟨rfl, rfl⟩
    · cases h

/-- R172: a block of CBC_DEC. -/
theorem cbcDecBlock_keepsForm (c : Config) : KeepsForm c cbcDecBlock where
  running i s h := by
    obtain ⟨form, odd⟩ := h
    have masked_lt : transform (s.bufAt i) s.keyD s.keyN &&& mask s.blockSize < 2 ^ s.cfg.w :=
      Nat.and_le_left.trans_lt (form.transform_lt odd _ _)
    have prev_lt : s.chainAfter (s.bufAt i) < 2 ^ s.cfg.w := Nat.and_le_left.trans_lt (form.wide_lt (.buf i))
    exact ⟨(form.setBuf i (Nat.xor_lt_two_pow masked_lt form.chain_lt)).setPrev prev_lt, odd⟩
  raises _ _ _ _ _ h := by cases h

/-- R150 to R172: a sequence command whose body keeps the form answers a state of the form. -/
theorem sequenceCommand_wf {body : Nat → State → CmdEnd} {s : State} (hbody : KeepsForm s.cfg body)
    (h : s.Running s.cfg) (start count : Nat) : ∃ t, sequenceCommand body start count s = .next t ∧ t.Wf := by
  rcases sequenceCommand_cases body start count s with
    ⟨-, e⟩ | ⟨-, -, e⟩ | ⟨-, -, -, e⟩ | ⟨run, -, odd, e⟩
  · exact ⟨_, e, h.raiseError_zero_wf _⟩
  · exact ⟨_, e, h.raiseError_zero_wf _⟩
  · exact ⟨_, e, h.raiseError_zero_wf _⟩
  · refine ⟨_, e, ?_⟩
    have form := (forBlocks_keeps _ hbody.running count start s ⟨h, odd⟩).1
    cases hend : forBlocks body count start s with
    | completed t =>
      rw [hend] at form
      exact form.complete_wf
    | raised code j t =>
      rw [hend] at form
      obtain ⟨m, u, -, below, raised⟩ := forBlocks_raised count start s hend
      obtain ⟨rfl, rfl⟩ := hbody.raises m u code j t raised
      have fits := (s.runOK_iff start count).1 run
      exact form.raiseError_wf (by omega) (.inr rfl)

/-! ## The other commands keep the form -/

/-- R112: CHECK. -/
theorem execCheck_wf {s : State} (h : s.Running s.cfg) : ∃ t, execCheck s = .next t ∧ t.Wf := by
  unfold execCheck
  split
  · exact ⟨_, rfl, h.raiseError_zero_wf _⟩
  · exact ⟨_, rfl, h.complete_wf⟩

/-- R113: CHAIN_INIT. -/
theorem execChainInit_wf {s : State} (h : s.Running s.cfg) : ∃ t, execChainInit s = .next t ∧ t.Wf := by
  unfold execChainInit
  split
  · exact ⟨_, rfl, h.raiseError_zero_wf _⟩
  · exact ⟨_, rfl, (h.setPrev (Nat.and_le_left.trans_lt (h.wide_lt .iv))).complete_wf⟩

/-- R133: MODEXP. -/
theorem execModexp_wf {s : State} (h : s.Running s.cfg) (x : ExpSel) (src dst : Nat) :
    ∃ t, execModexp x src dst s = .next t ∧ t.Wf := by
  unfold execModexp
  split_ifs with index modulus range
  · exact ⟨_, rfl, h.raiseError_zero_wf _⟩
  · exact ⟨_, rfl, h.raiseError_zero_wf _⟩
  · simp only [not_or, Bool.not_eq_false, State.indexOK_iff] at index
    exact ⟨_, rfl, h.raiseError_wf index.1 (.inr rfl)⟩
  · rw [Bool.not_eq_false] at modulus
    exact ⟨_, rfl, (h.setBuf dst (h.transform_lt modulus _ _)).complete_wf⟩

/-- R134: MONTMUL. -/
theorem execMontmul_wf {s : State} (h : s.Running s.cfg) (srcA srcB dst : Nat) :
    ∃ t, execMontmul srcA srcB dst s = .next t ∧ t.Wf := by
  unfold execMontmul
  split_ifs with index modulus rangeA rangeB
  · exact ⟨_, rfl, h.raiseError_zero_wf _⟩
  · exact ⟨_, rfl, h.raiseError_zero_wf _⟩
  · simp only [not_or, Bool.not_eq_false, State.indexOK_iff] at index
    exact ⟨_, rfl, h.raiseError_wf index.1 (.inr rfl)⟩
  · simp only [not_or, Bool.not_eq_false, State.indexOK_iff] at index
    exact ⟨_, rfl, h.raiseError_wf index.2.1 (.inr rfl)⟩
  · rw [Bool.not_eq_false] at modulus
    exact ⟨_, rfl, (h.setBuf dst ((monPro_lt _ _ _ _ modulus).trans h.keyN_lt)).complete_wf⟩

/-- Every command answers a state of the block's form. -/
theorem exec_wf {s : State} (h : s.Running s.cfg) (i : Instr) : ∃ t, exec i s = .next t ∧ t.Wf := by
  cases i with
  | nop => exact ⟨_, rfl, h.complete_wf⟩
  | check => exact execCheck_wf h
  | chainInit => exact execChainInit_wf h
  | ecbEnc start count => exact sequenceCommand_wf (ecbEncBlock_keepsForm _) h start count
  | ecbDec start count => exact sequenceCommand_wf (ecbDecBlock_keepsForm _) h start count
  | cbcEnc start count => exact sequenceCommand_wf (cbcEncBlock_keepsForm _) h start count
  | cbcDec start count => exact sequenceCommand_wf (cbcDecBlock_keepsForm _) h start count
  | modexp x src dst => exact execModexp_wf h x src dst
  | montmul srcA srcB dst => exact execMontmul_wf h srcA srcB dst

/-- R94, R95: a pending word ends in a state of the block's form, ILLEGAL or not. -/
theorem runCommand_wf {s : State} (h : s.Running s.cfg) (v : Word) : ∃ t, runCommand v s = .next t ∧ t.Wf := by
  unfold runCommand
  cases decode v with
  | ok i => exact exec_wf h i
  | error _ => exact ⟨_, rfl, h.raiseError_zero_wf _⟩

/-! ## The steps of the agents keep the form -/

/-- R221: the engine's turn. -/
theorem engineTurn_wf {s : State} (h : s.Wf) : ∃ t, engineTurn s = .next t ∧ t.Wf := by
  cases high : s.rstN with
  | false => exact ⟨s, engineTurn_idle s (.inl high), h⟩
  | true =>
    cases pend : s.pending with
    | none => exact ⟨s, engineTurn_idle s (.inr pend), h⟩
    | some v =>
      rw [engineTurn_busy s v high pend]
      exact runCommand_wf (h.running high) v

/-- R66: a wide register in its width stays in it when one of its NW words is written. -/
theorem setWord_lt_width {c : Config} (ok : c.Ok) {x k : Nat} (hx : x < 2 ^ c.w) (hk : k < c.nw) (v : Word) :
    setWord x k v.toNat < 2 ^ c.w := by
  have width : c.w = 32 * c.nw := (Nat.mul_div_cancel' (Nat.dvd_of_mod_eq_zero ok.1)).symm
  rw [width] at hx ⊢
  exact setWord_lt x k v.toNat c.nw hx hk v.isLt

/-- R66: a write of a wide register leaves the configuration, the form of the status registers and rst_n. -/
theorem State.setWide_keeps_status (s : State) (r : WReg) (v : Nat) :
    (s.setWide r v).cfg = s.cfg ∧ ((s.setWide r v).statusOk ↔ s.statusOk) ∧ (s.setWide r v).rstN = s.rstN := by
  cases r <;> exact ⟨rfl, Iff.rfl, rfl⟩

/-- R64, R68, R80: a write to a word that the block has keeps the form. -/
theorem writeWord_wf {s : State} (h : s.Wf) (high : s.rstN = true) (t : Target) (v : Word)
    (exists_word : ∀ r k, t = .wide r k → k < s.cfg.nw) : (s.writeWord t v).Wf := by
  obtain ⟨ok, buf, regs, status, -⟩ := id h
  obtain ⟨code, index, index_zero, pend⟩ := id status
  rcases writeWord_cases s t v with e | e | e | ⟨-, e⟩ | ⟨-, -, e⟩ | ⟨-, -, e⟩ | ⟨-, r, k, rfl, e⟩ <;> rw [e]
  · exact h
  · have done_clear : s.pending = none ∨ s.pending = some s.cmd ∧ (s.clearStatus v).done = false :=
      pend.imp_right fun ⟨latched, done⟩ => ⟨latched, by simp [done]⟩
    exact ⟨ok, buf, regs, ⟨code, index, index_zero, done_clear⟩, State.resetOk_of_high high⟩
  · exact ⟨ok, buf, regs, status, State.resetOk_of_high high⟩
  · exact ⟨ok, buf, regs, status, State.resetOk_of_high high⟩
  · exact ⟨ok, buf, regs, status, State.resetOk_of_high high⟩
  · exact ⟨ok, buf, regs, ⟨code, index, index_zero, .inr ⟨rfl, rfl⟩⟩, State.resetOk_of_high high⟩
  · have fits := setWord_lt_width ok (State.wide_lt buf regs r) (exists_word r k rfl) v
    obtain ⟨buf', regs'⟩ := State.setWide_fits buf regs r _ fits
    obtain ⟨cfg_eq, status_iff, rstN_eq⟩ := s.setWide_keeps_status r (setWord (s.wide r) k v.toNat)
    exact ⟨cfg_eq ▸ ok, buf', regs', status_iff.2 status, State.resetOk_of_high (rstN_eq.trans high)⟩

/-- R61: a transaction keeps the form. -/
theorem transact_wf {s : State} (h : s.Wf) (high : s.rstN = true) (tx : Transaction) : (s.transact tx).1.Wf := by
  rcases transact_cases s tx with ⟨-, e⟩ | ⟨t, -, -, e⟩ | ⟨t, target, -, e⟩ <;> rw [e]
  · exact h
  · exact h
  · refine writeWord_wf h high t tx.wdata fun r k wide => ?_
    exact legalTarget_wide_lt (wide ▸ target)

/-- R61, R250: the host's step keeps the form, whatever the level of rst_n. -/
theorem busEvent_wf {s : State} (h : s.Wf) (tx : Transaction) : (s.busEvent tx).Wf := by
  cases high : s.rstN with
  | false => rw [s.busEvent_low tx high]; exact h
  | true => rw [s.busEvent_high tx high]; exact transact_wf h high tx

/-- R251: the reset step gives the form, whatever the BUF draws are. -/
theorem resetAsserted_wf {s : State} (ok : s.cfg.Ok) : s.resetAsserted.Wf := by
  obtain ⟨-, -, -, nbuf_pos, -⟩ := id ok
  have zero_fits : 0 < 2 ^ s.cfg.w := Nat.two_pow_pos _
  exact ⟨ok, Buf.wf_atReset s.cfg s.draws, ⟨zero_fits, zero_fits, zero_fits, zero_fits, zero_fits⟩,
    ⟨by simp, nbuf_pos, by simp, .inl rfl⟩, fun _ => by simp⟩

/-- R250: the release of rst_n keeps the form. -/
theorem resetReleased_wf {s : State} (h : s.Wf) : s.resetReleased.Wf :=
  have ⟨ok, buf, regs, status, _⟩ := h
  ⟨ok, buf, regs, status, State.resetOk_of_high rfl⟩

/-- R16: an event of any agent answers a state of the block's form. -/
theorem perform_wf {s : State} (h : s.Wf) (e : Event) : ∃ t, perform e s = .next t ∧ t.Wf := by
  cases e with
  | bus tx => exact ⟨_, rfl, busEvent_wf h tx⟩
  | engine => exact engineTurn_wf h
  | resetLow => exact ⟨_, rfl, resetAsserted_wf h.1⟩
  | resetHigh => exact ⟨_, rfl, resetReleased_wf h⟩

/-- Every step from a state of the block's form answers one. -/
theorem step_wf {s : State} (h : s.Wf) : ∃ t, step s = .next t ∧ t.Wf := by
  cases script : s.script with
  | nil => rw [step_nil s script]; exact engineTurn_wf h
  | cons e rest => rw [step_cons s e rest script]; exact perform_wf (s := { s with script := rest }) h e

/-- Settles O56: each agent's step answers a state of the form (`step_wf`), and a step has one answer. -/
theorem stepKeepsForm : Obligations.StepKeepsForm := by
  intro s t h answer
  obtain ⟨u, computed, wf⟩ := step_wf h
  cases computed.symm.trans answer
  exact wf

end Sys2Proof.Machine

namespace Sys2Proof.Machine

/-! ## What a command can write: BUF at its results, PREV, and the completion fields -/

/-- Each write that the command may make, to BUF or to PREV, keeps `P`. -/
structure WritesKeep (i : Instr) (P : State → Prop) : Prop where
  buf : ∀ u j v, i.writes j → P u → P (u.setBuf j v)
  prev : ∀ u v, i.writesPrev = true → P u → P (u.setPrev v)

section
variable {P : State → Prop} {s : State}

/-- R101, R225: what the body keeps on every block of the run holds in the state that a sequence command ends with. -/
theorem sequenceCommand_keeps {body : Nat → State → CmdEnd} {start count : Nat}
    (keep : ∀ j u, start ≤ j → j < start + count → P u → P (body j u).state) (hs : P s) :
    ∃ e : CmdEnd, sequenceCommand body start count s = .next e.finish ∧ P e.state := by
  rcases sequenceCommand_cases body start count s with ⟨-, h⟩ | ⟨-, -, h⟩ | ⟨-, -, -, h⟩ | ⟨-, -, -, h⟩
  · exact ⟨.raised .index 0 s, h, hs⟩
  · exact ⟨.raised .blockSize 0 s, h, hs⟩
  · exact ⟨.raised .modulus 0 s, h, hs⟩
  · exact ⟨_, h, forBlocks_keeps_in P start (start + count) keep count start s le_rfl le_rfl hs⟩

/-- R150: a block of ECB_ENC writes its own entry or nothing. -/
theorem ecbEncBlock_keeps {j : Nat} (hs : P s) (buf : ∀ v, P (s.setBuf j v)) : P (ecbEncBlock j s).state := by
  unfold ecbEncBlock
  split
  · exact hs
  · exact buf _

/-- R171: a block of CBC_ENC writes its own entry and PREV, or nothing. -/
theorem cbcEncBlock_keeps {j : Nat} (hs : P s) (both : ∀ v p, P ((s.setBuf j v).setPrev p)) :
    P (cbcEncBlock j s).state := by
  simp only [cbcEncBlock]
  split
  · exact hs
  · exact both _ _

/-- R112: CHECK writes no entry and not PREV. -/
theorem execCheck_keeps (hs : P s) : ∃ e : CmdEnd, execCheck s = .next e.finish ∧ P e.state := by
  unfold execCheck
  split
  · exact ⟨.raised .blockSize 0 s, rfl, hs⟩
  · exact ⟨.completed s, rfl, hs⟩

/-- R113: CHAIN_INIT writes PREV or nothing. -/
theorem execChainInit_keeps (hs : P s) (prev : ∀ v, P (s.setPrev v)) :
    ∃ e : CmdEnd, execChainInit s = .next e.finish ∧ P e.state := by
  unfold execChainInit
  split
  · exact ⟨.raised .blockSize 0 s, rfl, hs⟩
  · exact ⟨.completed (s.setPrev _), rfl, prev _⟩

/-- R133: MODEXP writes its destination or nothing. -/
theorem execModexp_keeps {x : ExpSel} {src dst : Nat} (hs : P s) (buf : ∀ v, P (s.setBuf dst v)) :
    ∃ e : CmdEnd, execModexp x src dst s = .next e.finish ∧ P e.state := by
  unfold execModexp
  split_ifs
  · exact ⟨.raised .index 0 s, rfl, hs⟩
  · exact ⟨.raised .modulus 0 s, rfl, hs⟩
  · exact ⟨.raised .blockRange src s, rfl, hs⟩
  · exact ⟨.completed (s.setBuf dst _), rfl, buf _⟩

/-- R134: MONTMUL writes its destination or nothing. -/
theorem execMontmul_keeps {srcA srcB dst : Nat} (hs : P s) (buf : ∀ v, P (s.setBuf dst v)) :
    ∃ e : CmdEnd, execMontmul srcA srcB dst s = .next e.finish ∧ P e.state := by
  unfold execMontmul
  split_ifs
  · exact ⟨.raised .index 0 s, rfl, hs⟩
  · exact ⟨.raised .modulus 0 s, rfl, hs⟩
  · exact ⟨.raised .blockRange srcA s, rfl, hs⟩
  · exact ⟨.raised .blockRange srcB s, rfl, hs⟩
  · exact ⟨.completed (s.setBuf dst _), rfl, buf _⟩

/-- Every command finishes a state that its own writes made: what those writes keep holds there. -/
theorem exec_keeps {i : Instr} (keep : WritesKeep i P) (hs : P s) :
    ∃ e : CmdEnd, exec i s = .next e.finish ∧ P e.state := by
  cases i with
  | nop => exact ⟨.completed s, rfl, hs⟩
  | check => exact execCheck_keeps hs
  | chainInit => exact execChainInit_keeps hs fun v => keep.prev s v rfl hs
  | ecbEnc start count =>
    exact sequenceCommand_keeps (fun j u lo hi hu => ecbEncBlock_keeps hu fun v => keep.buf u j v ⟨lo, hi⟩ hu) hs
  | ecbDec start count => exact sequenceCommand_keeps (fun j u lo hi hu => keep.buf u j _ ⟨lo, hi⟩ hu) hs
  | cbcEnc start count =>
    exact sequenceCommand_keeps
      (fun j u lo hi hu => cbcEncBlock_keeps hu fun v p => keep.prev _ p rfl (keep.buf u j v ⟨lo, hi⟩ hu)) hs
  | cbcDec start count =>
    exact sequenceCommand_keeps (fun j u lo hi hu => keep.prev _ _ rfl (keep.buf u j _ ⟨lo, hi⟩ hu)) hs
  | modexp x src dst => exact execModexp_keeps hs fun v => keep.buf s dst v rfl hs
  | montmul srcA srcB dst => exact execMontmul_keeps hs fun v => keep.buf s dst v rfl hs

/-- `exec_keeps` for the state that a command answers. -/
theorem exec_next_keeps {i : Instr} {t : State} (h : exec i s = .next t) (keep : WritesKeep i P) (hs : P s) :
    ∃ e : CmdEnd, t = e.finish ∧ P e.state := by
  obtain ⟨e, answer, he⟩ := exec_keeps keep hs
  cases h.symm.trans answer
  exact ⟨e, rfl, he⟩

end

/-- Finishing leaves BUF and PREV (R223, R224). -/
theorem CmdEnd.finish_data (e : CmdEnd) : e.finish.buf = e.state.buf ∧ e.finish.prev = e.state.prev := by
  rw [e.finish_eq]
  exact ⟨rfl, rfl⟩

/-- `t` is `s` but for PREV and the entries of BUF. -/
def State.SameButData (s t : State) : Prop :=
  t.buf.length = s.buf.length ∧ t = { s with buf := t.buf, prev := t.prev }

/-- Writing BUF or PREV changes nothing else. -/
theorem writesKeep_sameButData (i : Instr) (s : State) : WritesKeep i s.SameButData where
  buf u j v _ same := by
    obtain ⟨len, eq⟩ := same
    exact ⟨(u.setBuf_length j v).trans len, congrArg (·.setBuf j v) eq⟩
  prev u v _ same := by
    obtain ⟨len, eq⟩ := same
    exact ⟨len, congrArg (·.setPrev v) eq⟩

/-- Settles O45: the writes of a command leave all but BUF and PREV, and its end writes the completion fields. -/
theorem commandFrame : Obligations.CommandFrame := by
  intro i s t h
  obtain ⟨e, rfl, len, eq⟩ := exec_next_keeps h (writesKeep_sameButData i s) ⟨rfl, rfl⟩
  cases e with
  | completed u => exact ⟨len, congrArg State.complete eq⟩
  | raised code index u => exact ⟨len, congrArg (·.raiseError code index) eq⟩

/-- Settles O46: the command writes other entries than `j`. -/
theorem bufferFrame : Obligations.BufferFrame := by
  intro i s t j h unwritten
  have keep : WritesKeep i fun u => u.bufAt j = s.bufAt j :=
    ⟨fun u k v written same => (u.setBuf_bufAt_ne k j v fun hjk => unwritten (hjk ▸ written)).trans same,
      fun _ _ _ same => same⟩
  obtain ⟨e, rfl, same⟩ := exec_next_keeps h keep rfl
  exact (congrArg (·.getD j 0) e.finish_data.1).trans same

/-- Settles O47: PREV is written only by the commands of `writesPrev`. -/
theorem chainRegisterFrame : Obligations.ChainRegisterFrame := by
  intro i s t h unwritten
  have keep : WritesKeep i fun u => u.prev = s.prev :=
    ⟨fun _ _ _ _ same => same, fun _ _ written _ => by simp [unwritten] at written⟩
  obtain ⟨e, rfl, same⟩ := exec_next_keeps h keep rfl
  exact e.finish_data.2.trans same

/-! ## R42: no command reads a flag -/

/-- The status fields that no command reads. -/
structure Flags where
  done : Bool
  werr : Bool
  errcode : BitVec 4
  errIndex : BitVec 8
  pending : Option Word

/-- The state with other flags. -/
def State.withFlags (f : Flags) (s : State) : State :=
  { s with done := f.done, werr := f.werr, errcode := f.errcode, errIndex := f.errIndex, pending := f.pending }

/-- The end of a command's body on the state with other flags. -/
def CmdEnd.withFlags (f : Flags) : CmdEnd → CmdEnd
  | .completed s => .completed (s.withFlags f)
  | .raised code index s => .raised code index (s.withFlags f)

/-- The answer with another WERR. -/
def Result.withWerr (w : Bool) : Result → Result
  | .next s => .next { s with werr := w }
  | .fault r => .fault r
  | .refused r => .refused r

/-- R223, R224: the end of a command overwrites every flag but WERR. -/
theorem CmdEnd.finish_withFlags (f : Flags) (e : CmdEnd) :
    (e.withFlags f).finish = { e.finish with werr := f.werr } := by
  cases e <;> rfl

/-- The body neither reads nor writes a flag. -/
def FlagBlind (body : Nat → State → CmdEnd) : Prop :=
  ∀ f j s, body j (s.withFlags f) = (body j s).withFlags f

/-- R150: a block of ECB_ENC. -/
theorem ecbEncBlock_flagBlind : FlagBlind ecbEncBlock := by
  intro f j s
  simp only [ecbEncBlock, apply_ite (CmdEnd.withFlags f)]
  rfl

/-- R171: a block of CBC_ENC. -/
theorem cbcEncBlock_flagBlind : FlagBlind cbcEncBlock := by
  intro f j s
  simp only [cbcEncBlock, apply_ite (CmdEnd.withFlags f)]
  rfl

/-- R101: a run of blocks whose body is blind to the flags is blind to them. -/
theorem forBlocks_withFlags {body : Nat → State → CmdEnd} (blind : FlagBlind body) (f : Flags) :
    ∀ k j s, forBlocks body k j (s.withFlags f) = (forBlocks body k j s).withFlags f
  | 0, _, _ => rfl
  | k + 1, j, s => by
    simp only [forBlocks, blind f j s]
    cases body j s with
    | completed t => exact forBlocks_withFlags blind f k (j + 1) t
    | raised code index t => rfl

/-- R225: the checks of a sequence command read no flag either. -/
theorem sequenceCommand_withFlags {body : Nat → State → CmdEnd} (blind : FlagBlind body) (f : Flags)
    (start count : Nat) (s : State) :
    sequenceCommand body start count (s.withFlags f) = Result.withWerr f.werr (sequenceCommand body start count s) := by
  simp only [sequenceCommand, apply_ite (Result.withWerr f.werr), forBlocks_withFlags blind, CmdEnd.finish_withFlags]
  rfl

/-- R133: MODEXP. -/
theorem execModexp_withFlags (f : Flags) (x : ExpSel) (src dst : Nat) (s : State) :
    execModexp x src dst (s.withFlags f) = Result.withWerr f.werr (execModexp x src dst s) := by
  simp only [execModexp, apply_ite (Result.withWerr f.werr)]
  rfl

/-- R134: MONTMUL. -/
theorem execMontmul_withFlags (f : Flags) (srcA srcB dst : Nat) (s : State) :
    execMontmul srcA srcB dst (s.withFlags f) = Result.withWerr f.werr (execMontmul srcA srcB dst s) := by
  simp only [execMontmul, apply_ite (Result.withWerr f.werr)]
  rfl

/-- R42: other flags before a command change nothing after it but WERR. -/
theorem exec_withFlags (f : Flags) (i : Instr) (s : State) :
    exec i (s.withFlags f) = Result.withWerr f.werr (exec i s) := by
  cases i with
  | nop => rfl
  | check => simp only [exec, execCheck, apply_ite (Result.withWerr f.werr)]; rfl
  | chainInit => simp only [exec, execChainInit, apply_ite (Result.withWerr f.werr)]; rfl
  | ecbEnc start count => exact sequenceCommand_withFlags ecbEncBlock_flagBlind f start count s
  | ecbDec start count => exact sequenceCommand_withFlags (fun _ _ _ => rfl) f start count s
  | cbcEnc start count => exact sequenceCommand_withFlags cbcEncBlock_flagBlind f start count s
  | cbcDec start count => exact sequenceCommand_withFlags (fun _ _ _ => rfl) f start count s
  | modexp x src dst => exact execModexp_withFlags f x src dst s
  | montmul srcA srcB dst => exact execMontmul_withFlags f srcA srcB dst s

/-- Settles O50: the command answers (`exec_keeps`), keeps WERR (`commandFrame`), and is blind to the flags. -/
theorem commandsReadNoFlag : Obligations.CommandsReadNoFlag := by
  intro i s d w e x p
  obtain ⟨a, answer, -⟩ := exec_keeps (writesKeep_sameButData i s) ⟨rfl, rfl⟩
  have werr_kept : a.finish.werr = s.werr := by rw [(commandFrame i s a.finish answer).2]
  exact ⟨a.finish, answer, werr_kept, (exec_withFlags ⟨d, w, e, x, p⟩ i s).trans (congrArg _ answer)⟩

/-! ## The host's step on the 32-bit registers -/

/-- A write neither reads nor writes the agents' later events. -/
theorem State.writeWord_withScript (s : State) (rest : List Event) (t : Target) (v : Word) :
    ({ s with script := rest } : State).writeWord t v = { s.writeWord t v with script := rest } := by
  have busy_eq : ({ s with script := rest } : State).busy = s.busy := rfl
  cases t with
  | bsize => simp only [State.writeWord, busy_eq]; split <;> rfl
  | cmd => simp only [State.writeWord, busy_eq]; split <;> rfl
  | wide r k => simp only [State.writeWord, busy_eq]; split <;> cases r <;> rfl
  | _ => rfl

section
variable {s : State} {tx : Transaction} {rest : List Event} {t : Target}

/-- R63, R72: a legal read answers the word and changes no register. -/
theorem step_legalRead (moves : s.hostMoves tx rest) (read : tx.we = false) (target : legalTarget s.cfg tx = some t) :
    step s = .next { s with script := rest, resp := some ⟨some (s.readWord t), false⟩ } := by
  obtain ⟨high, script⟩ := moves
  rw [step_cons s _ rest script, perform, State.busEvent_high { s with script := rest } tx high]
  simp only [State.transact, target, read]
  cases t <;> rfl

/-- R64: a legal write writes the word and answers no error. -/
theorem step_legalWrite (moves : s.hostMoves tx rest) (write : tx.we = true) (target : legalTarget s.cfg tx = some t) :
    step s = .next { s.writeWord t tx.wdata with script := rest, resp := some ⟨none, false⟩ } := by
  obtain ⟨high, script⟩ := moves
  rw [step_cons s _ rest script, perform, State.busEvent_high { s with script := rest } tx high]
  simp only [State.transact, target, write, State.writeWord_withScript]
  rfl

end

/-- R65: the address of a 32-bit register names it, in every configuration. -/
theorem legalTarget_address (cfg : Config) {t : Target} (narrow : ∀ r k, t ≠ .wide r k) (we : Bool) (d : Word) :
    legalTarget cfg ⟨we, BitVec.ofNat 16 t.address, 2, d⟩ = some t := by
  cases t with
  | wide r k => exact absurd rfl (narrow r k)
  | _ => simp [legalTarget, addrTarget, Target.address]

/-- R64, R65: a write at the address of a 32-bit register is a legal write of it. -/
theorem step_controlWrite {s : State} {v : Word} {rest : List Event} (t : Target) (narrow : ∀ r k, t ≠ .wide r k)
    (moves : s.hostMoves ⟨true, BitVec.ofNat 16 t.address, 2, v⟩ rest) :
    step s = .next { s.writeWord t v with script := rest, resp := some ⟨none, false⟩ } :=
  step_legalWrite moves rfl (legalTarget_address s.cfg narrow true v)

/-- The fields of a word that is put together from two stand at their places. -/
theorem append_toNat {m n : Nat} (x : BitVec m) (y : BitVec n) : (x ++ y).toNat = x.toNat * 2 ^ n + y.toNat := by
  rw [BitVec.toNat_append, ← Nat.shiftLeft_add_eq_or_of_lt y.isLt, Nat.shiftLeft_eq]

/-- R30: PARAM as the sum of its fields. -/
theorem State.paramWord_toNat {s : State} (ok : s.cfg.Ok) :
    s.paramWord.toNat = 1 * 2 ^ 24 + s.cfg.nbuf * 2 ^ 16 + s.cfg.w := by
  obtain ⟨-, -, w_le, -, nbuf_le⟩ := ok
  simp only [State.paramWord, append_toNat, BitVec.toNat_ofNat]
  omega

/-- R33: STATUS as the sum of its fields. -/
theorem State.statusWord_toNat (s : State) :
    s.statusWord.toNat = s.pending.isSome.toNat + 2 * s.done.toNat + 4 * s.werr.toNat + 16 * s.errcode.toNat := by
  simp only [State.statusWord, State.busy, append_toNat, BitVec.toNat_ofNat, BitVec.toNat_ofBool]
  omega

/-- R39: IRQ_EN as the sum of its fields. -/
theorem State.irqEnWord_toNat (s : State) : s.irqEnWord.toNat = s.doneIE.toNat + 2 * s.werrIE.toNat := by
  simp only [State.irqEnWord, append_toNat, BitVec.toNat_ofNat, BitVec.toNat_ofBool]
  omega

/-- R31: BSIZE reads as BS. -/
theorem State.bsizeWord_toNat (s : State) : s.bsizeWord.toNat = s.bs.toNat := by
  simp only [State.bsizeWord, append_toNat, BitVec.toNat_ofNat]
  omega

/-- R38: ERRINFO reads as INDEX. -/
theorem State.errinfoWord_toNat (s : State) : s.errinfoWord.toNat = s.errIndex.toNat := by
  simp only [State.errinfoWord, append_toNat, BitVec.toNat_ofNat]
  omega

/-- Settles O13: the answer is the register's word, which is the sum of its fields. -/
theorem controlRegisterReads : Obligations.ControlRegisterReads := by
  intro s t d rest ok moves narrow
  refine ⟨s.readWord t, step_legalRead moves rfl (legalTarget_address s.cfg narrow false d), ?_⟩
  refine ⟨?_, ?_, ?_, ?_, ?_, ?_, ?_⟩ <;> rintro rfl
  · rfl
  · exact State.paramWord_toNat ok
  · exact s.bsizeWord_toNat
  · rfl
  · exact s.statusWord_toNat
  · exact s.errinfoWord_toNat
  · exact s.irqEnWord_toNat

/-- R31: while BUSY = 0 a write to BSIZE stores BS. -/
theorem State.writeWord_bsize_idle {s : State} (idle : s.pending = none) (v : Word) :
    s.writeWord .bsize v = s.setBsize v := by
  simp [State.writeWord, State.busy, idle]

/-- Settles O14: each address names its register, and the write is that register's own. -/
theorem controlRegisterWrites : Obligations.ControlRegisterWrites := by
  intro s v rest idle
  refine ⟨fun moves => ?_, fun moves => ?_, fun moves => ?_, ?_⟩
  · have stored := step_controlWrite .bsize nofun moves
    rw [State.writeWord_bsize_idle idle] at stored
    exact ⟨_, none, stored, BitVec.toNat_setWidth 10 v, rfl⟩
  · exact ⟨none, step_controlWrite .status nofun moves⟩
  · exact ⟨none, step_controlWrite .irqEn nofun moves⟩
  · rintro a (rfl | rfl | rfl) moves
    · exact ⟨none, step_controlWrite .id nofun moves⟩
    · exact ⟨none, step_controlWrite .param nofun moves⟩
    · exact ⟨none, step_controlWrite .errinfo nofun moves⟩

/-! ## The interrupt line and reset -/

/-- R40, R227: the causes of the interrupt line. -/
theorem State.irq_iff (s : State) :
    s.irq = true ↔ (s.done = true ∧ s.doneIE = true) ∨ (s.werr = true ∧ s.werrIE = true) := by
  simp [State.irq]

/-- R227: a write of 1 to both W1C bits of STATUS clears the interrupt line. -/
theorem State.clearStatus_irq (s : State) : (s.clearStatus 0x6).irq = false := by
  simp [State.irq]

/-- Settles O55: the written word 6 has both W1C bits of STATUS, which clear both causes. -/
theorem interruptLine : Obligations.InterruptLine :=
  ⟨State.irq_iff, fun s _ moves => ⟨_, step_controlWrite .status nofun moves, s.clearStatus_irq⟩⟩

/-- Settles O53: the step is `resetAsserted`, whose BUF has the form and whose other registers are 0. -/
theorem resetSetsRegisters : Obligations.ResetSetsRegisters := by
  intro s rest script
  refine ⟨({ s with script := rest } : State).resetAsserted, step_cons s .resetLow rest script, rfl,
    Buf.wf_atReset s.cfg s.draws, ?_⟩
  simp [State.statusWord, State.errinfoWord, State.irqEnWord, State.busy, State.irq, State.readWord, idWord,
    State.paramWord]

/-- R250, R251: the state after reset is the one that the reset step and the release of rst_n leave. -/
theorem State.reset_eq : State.reset = ({ State.reset with draws := 0 } : State).resetAsserted.resetReleased := rfl

/-- Settles O57: the reset step gives the form to a block of the reference parameters, and the release keeps it. -/
theorem resetHasForm : Obligations.ResetHasForm := by
  have ok : Config.reference.Ok := by decide
  unfold Obligations.ResetHasForm
  rw [State.reset_eq]
  exact resetReleased_wf (resetAsserted_wf ok)

end Sys2Proof.Machine

namespace Sys2Proof.Machine

/-! ## R65: the address map, both ways -/

/-- R7, R65: a window of 0x200 bytes holds all words of a register. -/
theorem Config.nw_le {c : Config} (ok : c.Ok) : c.nw ≤ 128 := by
  obtain ⟨-, -, w_le, -, -⟩ := ok
  unfold Config.nw
  omega

/-- R65: the aligned addresses of a window are those of its NW words. -/
theorem windowWord_eq_some_iff {cfg : Config} {base n k : Nat} (aligned : n % 4 = 0) (base_aligned : base % 4 = 0) :
    windowWord cfg base n = some k ↔ k < cfg.nw ∧ n = base + 4 * k := by
  simp only [windowWord, Option.ite_none_right_eq_some, Option.some.injEq]
  omega

/-- R65: the aligned addresses of the block-buffer region are those of the words of its entries. -/
theorem bufWord_eq_some_iff {cfg : Config} (ok : cfg.Ok) {n : Nat} (aligned : n % 4 = 0) (t : Target) :
    bufWord cfg n = some t ↔
      ∃ i k, t = .wide (.buf i) k ∧ i < cfg.nbuf ∧ k < cfg.nw ∧ n = 0x8000 + 0x200 * i + 4 * k := by
  have nw_le := Config.nw_le ok
  simp only [bufWord, Option.ite_none_right_eq_some, Option.some.injEq]
  constructor
  · rintro ⟨⟨region, hi, hk⟩, rfl⟩
    exact ⟨_, _, rfl, hi, hk, by omega⟩
  · rintro ⟨i, k, rfl, hi, hk, rfl⟩
    have entry : (0x8000 + 0x200 * i + 4 * k - 0x8000) / 0x200 = i := by omega
    have word : (0x8000 + 0x200 * i + 4 * k - 0x8000) % 0x200 / 4 = k := by omega
    rw [entry, word]
    exact ⟨⟨by omega, hi, hk⟩, rfl⟩

/-- R65, R67: what the windows answer is a word that the block has, at its address. -/
theorem windowTarget_sound {cfg : Config} (ok : cfg.Ok) {n : Nat} (aligned : n % 4 = 0) {t : Target}
    (h : windowTarget cfg n = some t) : t.Exists cfg ∧ n = t.address := by
  have inWindow : ∀ {r : WReg}, r.base % 4 = 0 → (∀ k, k < cfg.nw → (Target.wide r k).Exists cfg) →
      (windowWord cfg r.base n).map (Target.wide r) = some t → t.Exists cfg ∧ n = t.address := by
    intro r base_aligned word_exists mapped
    obtain ⟨k, hk, rfl⟩ := Option.map_eq_some_iff.1 mapped
    obtain ⟨k_lt, at_word⟩ := (windowWord_eq_some_iff aligned base_aligned).1 hk
    exact ⟨word_exists k k_lt, at_word⟩
  unfold windowTarget at h
  split_ifs at h
  iterate 5 exact inWindow rfl (fun _ k_lt => k_lt) h
  obtain ⟨i, k, rfl, hi, hk, at_word⟩ := (bufWord_eq_some_iff ok aligned t).1 h
  exact ⟨⟨hi, hk⟩, at_word⟩

/-- R65: a word that the block has is found at its address. -/
theorem windowTarget_address {cfg : Config} (ok : cfg.Ok) {r : WReg} {k : Nat}
    (word_exists : (Target.wide r k).Exists cfg) :
    windowTarget cfg (Target.wide r k).address = some (.wide r k) := by
  have nw_le := Config.nw_le ok
  have inWindow : ∀ base, base % 4 = 0 → k < cfg.nw → windowWord cfg base (base + 4 * k) = some k :=
    fun base base_aligned k_lt => (windowWord_eq_some_iff (by omega) base_aligned).2 ⟨k_lt, rfl⟩
  cases r with
  | buf i =>
    obtain ⟨hi, hk⟩ := word_exists
    have inRegion := (bufWord_eq_some_iff ok (n := 0x8000 + 0x200 * i + 4 * k) (by omega) _).2 ⟨i, k, rfl, hi, hk, rfl⟩
    simp (disch := omega) only [windowTarget, Target.address, WReg.base, if_neg, inRegion]
  | _ =>
    have k_lt : k < cfg.nw := word_exists
    simp (disch := omega) only [windowTarget, Target.address, WReg.base, if_pos, if_neg, inWindow, Option.map_some]

/-- R65: the windows stand past the 32-bit registers, each word at an aligned address. -/
theorem Target.address_wide_bounds {cfg : Config} (ok : cfg.Ok) {r : WReg} {k : Nat}
    (word_exists : (Target.wide r k).Exists cfg) :
    0x1000 ≤ (Target.wide r k).address ∧ (Target.wide r k).address < 2 ^ 16 ∧ (Target.wide r k).address % 4 = 0 := by
  have nw_le := Config.nw_le ok
  obtain ⟨-, -, -, -, nbuf_le⟩ := ok
  cases r with
  | buf i =>
    obtain ⟨hi, hk⟩ := word_exists
    simp only [Target.address, WReg.base]
    omega
  | _ =>
    have k_lt : k < cfg.nw := word_exists
    simp only [Target.address, WReg.base]
    omega

/-- R65: every target's address is an aligned 16-bit address. -/
theorem Target.address_bounds {cfg : Config} (ok : cfg.Ok) {t : Target} (t_exists : t.Exists cfg) :
    t.address < 2 ^ 16 ∧ t.address % 4 = 0 := by
  cases t with
  | wide r k => exact (Target.address_wide_bounds ok t_exists).2
  | _ => decide

/-- R65: an aligned address past the 32-bit registers names what the windows answer. -/
theorem addrTarget_window {cfg : Config} {a : Addr} (aligned : a.toNat % 4 = 0) (past : 0x1000 ≤ a.toNat) :
    addrTarget cfg a = windowTarget cfg a.toNat := by
  simp (disch := omega) only [addrTarget, if_neg]

/-- Settles O12: what the map answers exists and stands at the address, and each target is found at its address. -/
theorem addressMapIsExact : Obligations.AddressMapIsExact := by
  intro cfg a t ok
  constructor
  · intro h
    simp only [addrTarget] at h
    split_ifs at h with unaligned id param bsize cmd status errinfo irqEn
    iterate 7 (cases h; exact ⟨trivial, ‹_›⟩)
    exact windowTarget_sound ok (by omega) h
  · rintro ⟨t_exists, at_address⟩
    cases t with
    | wide r k =>
      obtain ⟨past, -, aligned⟩ := Target.address_wide_bounds ok t_exists
      rw [addrTarget_window (by omega) (by omega), at_address]
      exact windowTarget_address ok t_exists
    | _ => simp [addrTarget, at_address, Target.address]

/-! ## R62: legal transactions -/

/-- R62: the word of a legal transaction is the one at its address. -/
theorem legalTarget_eq_some_iff {cfg : Config} (ok : cfg.Ok) (tx : Transaction) (t : Target) :
    legalTarget cfg tx = some t ↔ tx.size = 2 ∧ t.Exists cfg ∧ tx.addr.toNat = t.address := by
  rw [legalTarget, Option.ite_none_right_eq_some, addressMapIsExact cfg tx.addr t ok]

/-- R65: the table's addresses are those of the targets that the block has. -/
theorem mapped_iff (cfg : Config) (n : Nat) : Mapped cfg n ↔ ∃ t : Target, t.Exists cfg ∧ n = t.address := by
  constructor
  · rintro (h | h | h | h | h | h | h | ⟨k, hk, h | h | h | h | h⟩ | ⟨i, hi, k, hk, h⟩)
    · exact ⟨.id, trivial, h⟩
    · exact ⟨.param, trivial, h⟩
    · exact ⟨.bsize, trivial, h⟩
    · exact ⟨.cmd, trivial, h⟩
    · exact ⟨.status, trivial, h⟩
    · exact ⟨.errinfo, trivial, h⟩
    · exact ⟨.irqEn, trivial, h⟩
    · exact ⟨.wide .keyN k, hk, h⟩
    · exact ⟨.wide .keyE k, hk, h⟩
    · exact ⟨.wide .keyD k, hk, h⟩
    · exact ⟨.wide .iv k, hk, h⟩
    · exact ⟨.wide .prev k, hk, h⟩
    · exact ⟨.wide (.buf i) k, ⟨hi, hk⟩, h⟩
  · rintro ⟨t, t_exists, rfl⟩
    cases t with
    | wide r k =>
      cases r with
      | buf i =>
        iterate 8 right
        exact ⟨i, t_exists.1, k, t_exists.2, rfl⟩
      | _ =>
        iterate 7 right
        exact .inl ⟨k, t_exists, by simp [Target.address, WReg.base]⟩
    | _ => simp [Mapped, Target.address]

/-- R62: a transaction is legal exactly when it names a target. -/
theorem legal_iff_target {cfg : Config} (ok : cfg.Ok) (tx : Transaction) :
    tx.Legal cfg ↔ ∃ t, legalTarget cfg tx = some t := by
  simp only [legalTarget_eq_some_iff ok, Transaction.Legal, mapped_iff]
  constructor
  · rintro ⟨size, -, t, t_exists, at_address⟩
    exact ⟨t, size, t_exists, at_address⟩
  · rintro ⟨t, size, t_exists, at_address⟩
    have aligned := (Target.address_bounds ok t_exists).2
    exact ⟨size, by omega, t, t_exists, at_address⟩

/-- R65: the 4-byte transaction at the address of a word that the block has is a legal one on that word. -/
theorem legalTarget_of_exists {cfg : Config} (ok : cfg.Ok) {t : Target} (t_exists : t.Exists cfg) (we : Bool) (d : Word) :
    legalTarget cfg ⟨we, BitVec.ofNat 16 t.address, 2, d⟩ = some t := by
  have fits := (Target.address_bounds ok t_exists).1
  exact (legalTarget_eq_some_iff ok _ t).2 ⟨rfl, t_exists, Nat.mod_eq_of_lt fits⟩

/-- R62: an illegal transaction answers the bus error and changes no register. -/
theorem step_illegal {s : State} {tx : Transaction} {rest : List Event} (moves : s.hostMoves tx rest)
    (illegal : legalTarget s.cfg tx = none) :
    step s = .next { s with script := rest, resp := some ⟨some 0, true⟩ } := by
  obtain ⟨high, script⟩ := moves
  rw [step_cons s _ rest script, perform, State.busEvent_high { s with script := rest } tx high]
  simp only [State.transact, illegal]
  rfl

/-- Settles O10: a legal transaction names a target and is its read or write; an illegal one names none. -/
theorem busErrors : Obligations.BusErrors := by
  intro s tx rest ok moves
  rw [legal_iff_target ok]
  constructor
  · rintro ⟨t, target⟩
    cases we : tx.we with
    | false => exact ⟨_, _, step_legalRead moves we target, rfl⟩
    | true => exact ⟨_, _, step_legalWrite moves we target, rfl⟩
  · intro illegal
    exact step_illegal moves (Option.eq_none_iff_forall_ne_some.2 fun t target => illegal ⟨t, target⟩)

/-- Settles O11: a legal read answers the word, an illegal one the bus error, and neither writes a register. -/
theorem readsChangeNothing : Obligations.ReadsChangeNothing := by
  intro s tx rest moves read
  cases target : legalTarget s.cfg tx with
  | none => exact ⟨_, step_illegal moves target⟩
  | some t => exact ⟨_, step_legalRead moves read target⟩

/-! ## R80, R81: the bus while BUSY = 1 -/

/-- R81: the registers that read as 0 while BUSY = 1 are PREV and the entries of BUF. -/
theorem WReg.hidden_iff (r : WReg) : r.hidden = true ↔ r = .prev ∨ ∃ i, r = .buf i := by
  cases r <;> simp [WReg.hidden]

/-- R81: a hidden word reads as 0 while BUSY = 1. -/
theorem State.readWord_hidden {s : State} {r : WReg} (busy : s.pending.isSome = true) (hidden : r.hidden = true)
    (k : Nat) : s.readWord (.wide r k) = 0 := by
  simp [State.readWord, State.busy, busy, hidden]

/-- R66: a word that is not hidden reads as its bits of the register. -/
theorem State.readWord_shown {s : State} {r : WReg} (shown : ¬(s.pending.isSome = true ∧ r.hidden = true)) (k : Nat) :
    (s.readWord (.wide r k)).toNat = wordOf (s.wide r) k := by
  have not_hidden : (s.busy && r.hidden) = false := by simpa [State.busy] using shown
  rw [State.readWord, not_hidden]
  exact Nat.mod_eq_of_lt (wordOf_lt _ _)

/-- Settles O9: the word at the address is read, as 0 while it is hidden and as its bits otherwise. -/
theorem readsWhileBusy : Obligations.ReadsWhileBusy := by
  intro s r k d rest ok word_exists moves
  rw [← WReg.hidden_iff]
  exact ⟨_, step_legalRead moves rfl (legalTarget_of_exists ok word_exists false d),
    fun ⟨busy, hidden⟩ => State.readWord_hidden busy hidden k, fun shown => State.readWord_shown shown k⟩

/-- R80: while BUSY = 1 a write to BSIZE, CMD or a word of a wide register is dropped. -/
theorem State.writeWord_dropped {s : State} (busy : s.pending.isSome = true) {t : Target}
    (guarded : t = .bsize ∨ t = .cmd ∨ ∃ r k, t = .wide r k) (v : Word) : s.writeWord t v = s.dropWrite := by
  rcases guarded with rfl | rfl | ⟨r, k, rfl⟩ <;> exact if_pos busy

/-- Settles O8: the written word is the target at the address; BSIZE, CMD and the wide registers, which stand at every
address not named in the statement, are dropped. -/
theorem writesWhileBusy : Obligations.WritesWhileBusy := by
  intro s a v rest ok busy moves legal
  obtain ⟨t, target⟩ := (legal_iff_target ok _).1 legal
  obtain ⟨-, t_exists, at_address⟩ := (legalTarget_eq_some_iff ok _ t).1 target
  refine ⟨none, (step_legalWrite moves rfl target).trans ?_⟩
  have a_eq : a = BitVec.ofNat 16 t.address := BitVec.eq_of_toNat_eq <| by
    rw [← at_address, BitVec.ofNat_toNat, BitVec.setWidth_eq]
  cases t with
  | bsize =>
    rw [State.writeWord_dropped busy (.inl rfl), a_eq]
    rfl
  | cmd =>
    rw [State.writeWord_dropped busy (.inr (.inl rfl)), a_eq]
    rfl
  | wide r k =>
    have past : 0x1000 ≤ a.toNat := at_address ▸ (Target.address_wide_bounds ok t_exists).1
    have apart : ∀ b : Addr, b.toNat < 0x1000 → a ≠ b := by rintro b below rfl; omega
    rw [State.writeWord_dropped busy (.inr (.inr ⟨r, k, rfl⟩))]
    simp [apart, State.dropWrite]
  | _ => rw [a_eq]; rfl

/-! ## R81: no transaction tells BUF or PREV -/

/-- The state with other contents of BUF and PREV. -/
def State.withOperands (b : List Nat) (p : Nat) (s : State) : State := { s with buf := b, prev := p }

/-- R81: while BUSY = 1 no word that is read tells BUF or PREV. -/
theorem State.readWord_withOperands {s : State} (busy : s.pending.isSome = true) (b : List Nat) (p : Nat) (t : Target) :
    (s.withOperands b p).readWord t = s.readWord t := by
  have both_zero : ∀ (r : WReg) (k : Nat), r.hidden = true →
      (s.withOperands b p).readWord (.wide r k) = s.readWord (.wide r k) := fun r k hidden =>
    (State.readWord_hidden (s := s.withOperands b p) busy hidden k).trans (State.readWord_hidden busy hidden k).symm
  cases t with
  | wide r k =>
    cases r with
    | prev => exact both_zero .prev k rfl
    | buf i => exact both_zero (.buf i) k rfl
    | _ => rfl
  | _ => rfl

/-- R80: while BUSY = 1 a write neither reads nor writes BUF or PREV. -/
theorem State.writeWord_withOperands {s : State} (busy : s.pending.isSome = true) (b : List Nat) (p : Nat) (t : Target)
    (v : Word) : (s.withOperands b p).writeWord t v = (s.writeWord t v).withOperands b p := by
  have dropped : (t = .bsize ∨ t = .cmd ∨ ∃ r k, t = .wide r k) →
      (s.withOperands b p).writeWord t v = (s.writeWord t v).withOperands b p := fun guarded => by
    rw [State.writeWord_dropped (s := s.withOperands b p) busy guarded, State.writeWord_dropped busy guarded]
    rfl
  cases t with
  | bsize => exact dropped (.inl rfl)
  | cmd => exact dropped (.inr (.inl rfl))
  | wide r k => exact dropped (.inr (.inr ⟨r, k, rfl⟩))
  | _ => rfl

/-- R81: while BUSY = 1 a transaction answers alike and does the same whatever BUF and PREV hold. -/
theorem State.transact_withOperands {s : State} (busy : s.pending.isSome = true) (b : List Nat) (p : Nat)
    (tx : Transaction) :
    (s.withOperands b p).transact tx = ((s.transact tx).1.withOperands b p, (s.transact tx).2) := by
  have cfg_eq : (s.withOperands b p).cfg = s.cfg := rfl
  simp only [State.transact, cfg_eq, State.readWord_withOperands busy, State.writeWord_withOperands busy]
  cases legalTarget s.cfg tx with
  | none => rfl
  | some t => cases tx.we <;> rfl

/-- R81, R250: so does the host's step, whatever the level of rst_n. -/
theorem State.busEvent_withOperands {s : State} (busy : s.pending.isSome = true) (b : List Nat) (p : Nat)
    (tx : Transaction) : (s.withOperands b p).busEvent tx = (s.busEvent tx).withOperands b p := by
  cases level : s.rstN with
  | false => rw [State.busEvent_low s tx level, State.busEvent_low (s.withOperands b p) tx level]; rfl
  | true =>
    rw [State.busEvent_high s tx level, State.busEvent_high (s.withOperands b p) tx level,
      State.transact_withOperands busy]
    rfl

/-- Settles O16: the host's step commutes with a change of BUF and PREV; the trivial change shows that it keeps them. -/
theorem busyHidesOperands : Obligations.BusyHidesOperands := by
  intro s tx rest b p busy script
  have moved : ∀ c q, step (s.withOperands c q) =
      .next ((({ s with script := rest } : State).busEvent tx).withOperands c q) := fun c q => by
    rw [step_cons (s.withOperands c q) _ rest script]
    exact congrArg _ (State.busEvent_withOperands (s := { s with script := rest }) busy c q tx)
  exact ⟨_, moved s.buf s.prev, rfl, rfl, moved b p⟩

/-! ## R66: the words of a wide value -/

/-- The low words of a value are its lower words and the one above them. -/
theorem mod_word_succ (x k : Nat) : x % 2 ^ (32 * (k + 1)) = x % 2 ^ (32 * k) + 2 ^ (32 * k) * wordOf x k := by
  rw [Nat.mul_succ, pow_add, Nat.mod_mul, wordOf]

/-- Words of equal low parts are equal. -/
theorem wordOf_eq_of_mod_eq {x y j k : Nat} (low : x % 2 ^ (32 * k) = y % 2 ^ (32 * k)) (below : j < k) :
    wordOf x j = wordOf y j := by
  have word : ∀ z, wordOf z j = z % 2 ^ (32 * k) / 2 ^ (32 * j) % 2 ^ 32 := fun z => by
    obtain ⟨d, rfl⟩ : ∃ d, k = j + 1 + d := ⟨k - (j + 1), by omega⟩
    have cut : 2 ^ (32 * (j + 1 + d)) = 2 ^ (32 * j) * (2 ^ 32 * 2 ^ (32 * d)) := by
      rw [← pow_add, ← pow_add]; ring_nf
    rw [cut, Nat.mod_mul_right_div_self, Nat.mod_mul_right_mod, wordOf]
  rw [word x, word y, low]

/-- Words of equal high parts are equal. -/
theorem wordOf_eq_of_div_eq {x y j k : Nat} (high : x / 2 ^ (32 * k) = y / 2 ^ (32 * k)) (above : k ≤ j) :
    wordOf x j = wordOf y j := by
  have word : ∀ z, wordOf z j = z / 2 ^ (32 * k) / 2 ^ (32 * (j - k)) % 2 ^ 32 := fun z => by
    rw [Nat.div_div_eq_div_mul, ← pow_add, ← Nat.mul_add, Nat.add_sub_cancel' above, wordOf]
  rw [word x, word y, high]

/-- R66: the value after a write of word `k`, by what stands below the word. -/
theorem setWord_eq (x k v : Nat) :
    setWord x k v = 2 ^ (32 * k) * (2 ^ 32 * (x / 2 ^ (32 * (k + 1))) + v) + x % 2 ^ (32 * k) := by
  rw [setWord_split, Nat.mul_succ, pow_add]
  ring

/-- R66: a write of word `k` keeps what stands below it. -/
theorem setWord_mod (x k v : Nat) : setWord x k v % 2 ^ (32 * k) = x % 2 ^ (32 * k) := by
  rw [setWord_eq, Nat.mul_add_mod, Nat.mod_mod]

/-- R66: after a write of word `k` the new word stands below the old higher words. -/
theorem setWord_div (x k v : Nat) : setWord x k v / 2 ^ (32 * k) = 2 ^ 32 * (x / 2 ^ (32 * (k + 1))) + v := by
  have low : x % 2 ^ (32 * k) / 2 ^ (32 * k) = 0 := Nat.div_eq_of_lt (Nat.mod_lt _ (Nat.two_pow_pos _))
  rw [setWord_eq, Nat.mul_add_div (Nat.two_pow_pos _), low, Nat.add_zero]

/-- R66: a write of word `k` keeps what stands above it. -/
theorem setWord_div_succ (x k : Nat) {v : Nat} (word : v < 2 ^ 32) :
    setWord x k v / 2 ^ (32 * (k + 1)) = x / 2 ^ (32 * (k + 1)) := by
  have cut : 2 ^ (32 * (k + 1)) = 2 ^ (32 * k) * 2 ^ 32 := by rw [Nat.mul_succ, pow_add]
  calc setWord x k v / 2 ^ (32 * (k + 1))
      = setWord x k v / 2 ^ (32 * k) / 2 ^ 32 := by rw [cut, Nat.div_div_eq_div_mul]
    _ = x / 2 ^ (32 * (k + 1)) := by
      rw [setWord_div, Nat.mul_add_div (Nat.two_pow_pos _), Nat.div_eq_of_lt word, Nat.add_zero]

/-- R66: the written word is read back. -/
theorem wordOf_setWord_self (x k : Nat) {v : Nat} (word : v < 2 ^ 32) : wordOf (setWord x k v) k = v := by
  rw [wordOf, setWord_div, Nat.mul_add_mod, Nat.mod_eq_of_lt word]

/-- R66: a write of word `k` keeps every other word. -/
theorem wordOf_setWord_ne (x : Nat) {k v j : Nat} (word : v < 2 ^ 32) (other : j ≠ k) :
    wordOf (setWord x k v) j = wordOf x j := by
  rcases Nat.lt_or_gt_of_ne other with below | above
  · exact wordOf_eq_of_mod_eq (setWord_mod x k v) below
  · exact wordOf_eq_of_div_eq (setWord_div_succ x k word) above

/-! ## R66: the words of a wide register -/

/-- R66: a write of a wide register that the block has is read back. -/
theorem State.setWide_wide_self {s : State} (buf : Buf.wf s.cfg s.buf) {r : WReg} {k : Nat}
    (word_exists : (Target.wide r k).Exists s.cfg) (v : Nat) : (s.setWide r v).wide r = v := by
  cases r with
  | buf i => exact s.setBuf_bufAt_self i v (buf.1.symm ▸ word_exists.1)
  | _ => rfl

/-- R66: a write of a wide register leaves every other one. -/
theorem State.setWide_wide_ne (s : State) {r r' : WReg} (other : r' ≠ r) (v : Nat) :
    (s.setWide r v).wide r' = s.wide r' := by
  cases r with
  | buf i =>
    cases r' with
    | buf j => exact s.setBuf_bufAt_ne i j v fun same => other (congrArg _ same)
    | _ => rfl
  | _ => cases r' <;> simp_all [State.setWide, State.wide, State.bufAt]

/-- R66: a write of a wide register writes no other state. -/
theorem State.setWide_frame (s : State) (r : WReg) (v : Nat) :
    s.setWide r v = { s with
      keyN := (s.setWide r v).keyN, keyE := (s.setWide r v).keyE, keyD := (s.setWide r v).keyD
      iv := (s.setWide r v).iv, prev := (s.setWide r v).prev, buf := (s.setWide r v).buf } := by
  cases r <;> rfl

/-- R64: while BUSY = 0 a write of a word of a wide register replaces the word. -/
theorem State.writeWord_wide_idle {s : State} (idle : s.pending = none) (r : WReg) (k : Nat) (v : Word) :
    s.writeWord (.wide r k) v = s.setWide r (setWord (s.wide r) k v.toNat) := by
  simp [State.writeWord, State.busy, idle]

/-- Settles O15: the read is that of `readsWhileBusy`; the write is `setWide` of `setWord`. -/
theorem wideRegisterWords : Obligations.WideRegisterWords := by
  intro s r k v rest ⟨ok, buf, _⟩ idle word_exists
  constructor
  · intro moves
    obtain ⟨x, answer, -, shown⟩ := readsWhileBusy s r k v rest ok word_exists moves
    exact ⟨x, answer, shown (by simp [idle])⟩
  · intro moves
    have written := step_legalWrite moves rfl (legalTarget_of_exists ok word_exists true v)
    rw [State.writeWord_wide_idle idle] at written
    have self := State.setWide_wide_self buf word_exists (setWord (s.wide r) k v.toNat)
    refine ⟨_, none, written, self, ?_, fun j other => ?_, fun r' other => s.setWide_wide_ne other _, ?_⟩
    · exact (congrArg (wordOf · k) self).trans (wordOf_setWord_self (s.wide r) k v.isLt)
    · exact (congrArg (wordOf · j) self).trans (wordOf_setWord_ne (s.wide r) v.isLt other)
    · rw [s.setWide_frame r]

/-! ## R100: a whole register -/

/-- R9: W is the width of NW words. -/
theorem Config.width_eq {c : Config} (ok : c.Ok) : c.w = 32 * c.nw :=
  (Nat.mul_div_cancel' (Nat.dvd_of_mod_eq_zero ok.1)).symm

/-- The host's write of word `k` of a wide register, while BUSY = 0. -/
theorem State.after_wr_wide {s : State} (ok : s.cfg.Ok) (high : s.rstN = true) (idle : s.pending = none) {r : WReg}
    {k : Nat} (word_exists : (Target.wide r k).Exists s.cfg) (v : Word) :
    s.after (wr (.wide r k) v) = { s.setWide r (setWord (s.wide r) k v.toNat) with resp := some ⟨none, false⟩ } := by
  rw [wr, State.after_bus, State.busEvent_high s _ high]
  simp only [State.transact, legalTarget_of_exists ok word_exists, State.writeWord_wide_idle idle]
  rfl

/-- R63: what the host reads from a word that the block has. -/
theorem State.hostRead_high {s : State} (ok : s.cfg.Ok) (high : s.rstN = true) {t : Target} (t_exists : t.Exists s.cfg) :
    s.hostRead t = s.readWord t := by
  simp only [State.hostRead, State.hostResponse, rd, State.after_bus, State.busEvent_high s _ high, State.transact,
    legalTarget_of_exists ok t_exists]
  rfl

/-- R65: a register of the block has all NW words. -/
theorem Target.exists_wide {cfg : Config} {r : WReg} (entry : ∀ i, r = .buf i → i < cfg.nbuf) {k : Nat}
    (word : k < cfg.nw) : (Target.wide r k).Exists cfg := by
  cases r with
  | buf i => exact ⟨entry i rfl, word⟩
  | _ => exact word

/-- What `wrw REG, V` has done to the state `s` after its first `n` words. -/
structure State.WroteWords (s : State) (r : WReg) (v n : Nat) (t : State) : Prop where
  wf : t.Wf
  cfg_eq : t.cfg = s.cfg
  high : t.rstN = true
  idle : t.pending = none
  low : t.wide r % 2 ^ (32 * n) = v % 2 ^ (32 * n)
  others : ∀ r', r' ≠ r → t.wide r' = s.wide r'

section
variable {s : State} {r : WReg} (v : Nat) (entry : ∀ i, r = .buf i → i < s.cfg.nbuf)
include entry

/-- R100: the write of the next word of `wrw` puts the word above the ones that are written. -/
theorem State.WroteWords.next {n : Nat} {t : State} (h : s.WroteWords r v n t) (word : n < s.cfg.nw) :
    s.WroteWords r v (n + 1) (t.after (wr (.wide r n) (BitVec.ofNat 32 (wordOf v n)))) := by
  obtain ⟨wf, cfg_eq, high, idle, low, others⟩ := h
  have ⟨ok, buf, _⟩ := wf
  have word_exists : (Target.wide r n).Exists t.cfg := Target.exists_wide (cfg_eq ▸ entry) (cfg_eq ▸ word)
  have value : (BitVec.ofNat 32 (wordOf v n)).toNat = wordOf v n := Nat.mod_eq_of_lt (wordOf_lt v n)
  have after_eq := State.after_wr_wide ok high idle word_exists (BitVec.ofNat 32 (wordOf v n))
  have after_wf : (t.after (wr (.wide r n) (BitVec.ofNat 32 (wordOf v n)))).Wf := busEvent_wf wf _
  rw [after_eq, value] at after_wf ⊢
  obtain ⟨cfg_kept, -, high_kept⟩ := t.setWide_keeps_status r (setWord (t.wide r) n (wordOf v n))
  refine ⟨after_wf, cfg_kept.trans cfg_eq, high_kept.trans high, ?_, ?_, fun r' other => ?_⟩
  · exact (congrArg State.pending (t.setWide_frame r _)).trans idle
  · have self := State.setWide_wide_self buf word_exists (setWord (t.wide r) n (wordOf v n))
    refine (congrArg (· % 2 ^ (32 * (n + 1))) self).trans ?_
    calc setWord (t.wide r) n (wordOf v n) % 2 ^ (32 * (n + 1))
        = t.wide r % 2 ^ (32 * n) + 2 ^ (32 * n) * wordOf v n := by
          rw [mod_word_succ, setWord_mod, wordOf_setWord_self _ _ (wordOf_lt v n)]
      _ = v % 2 ^ (32 * (n + 1)) := by rw [low, mod_word_succ]
  · exact (t.setWide_wide_ne other _).trans (others r' other)

/-- R100: what the first `n` writes of `wrw` do. -/
theorem State.wroteWords_play (wf : s.Wf) (high : s.rstN = true) (idle : s.pending = none) :
    ∀ n ≤ s.cfg.nw, s.WroteWords r v n
      (s.play ((List.range n).map fun k => wr (.wide r k) (BitVec.ofNat 32 (wordOf v k))))
  | 0, _ => ⟨wf, rfl, high, idle, by simp [Nat.mod_one], fun _ _ => rfl⟩
  | n + 1, le => by
    have written := State.wroteWords_play wf high idle n (by omega)
    rw [List.range_succ, List.map_append, State.play, List.foldl_append]
    exact written.next v entry le

/-- R100: what `rdw` gives while BUSY = 0, by its first `n` words. -/
theorem State.hostReadWords_idle (ok : s.cfg.Ok) (high : s.rstN = true) (idle : s.pending = none) :
    ∀ n ≤ s.cfg.nw, s.hostReadWords n r = s.wide r % 2 ^ (32 * n)
  | 0, _ => by simp [State.hostReadWords, Nat.mod_one]
  | n + 1, le => by
    have lower := State.hostReadWords_idle ok high idle n (by omega)
    have read : (s.hostRead (.wide r n)).toNat = wordOf (s.wide r) n := by
      rw [State.hostRead_high ok high (Target.exists_wide entry le), State.readWord_shown (by simp [idle])]
    rw [mod_word_succ, ← lower, ← read, Nat.mul_comm]
    simp only [State.hostReadWords, List.range_succ, List.foldl_append, List.foldl_cons, List.foldl_nil]

/-- R100: `rdw` gives the register while BUSY = 0. -/
theorem State.hostReadWide_idle (wf : s.Wf) (high : s.rstN = true) (idle : s.pending = none) :
    s.hostReadWide r = s.wide r := by
  obtain ⟨ok, buf, regs, -⟩ := wf
  have fits := State.wide_lt buf regs r
  rw [Config.width_eq ok] at fits
  rw [State.hostReadWide, State.hostReadWords_idle entry ok high idle _ le_rfl, Nat.mod_eq_of_lt fits]

end

/-- Settles O17: after all NW writes the words that are written are the whole register, which `rdw` gives. -/
theorem wholeRegisterWrite : Obligations.WholeRegisterWrite := by
  intro s r v wf high idle entry fits
  have written : s.WroteWords r v s.cfg.nw (s.play (wrw s.cfg r v)) := State.wroteWords_play v entry wf high idle _ le_rfl
  obtain ⟨wf', cfg_eq, high', idle', low, others⟩ := written
  have whole : (s.play (wrw s.cfg r v)).wide r = v := by
    obtain ⟨-, buf, regs, -⟩ := id wf'
    have fits' := State.wide_lt buf regs r
    rw [cfg_eq] at fits'
    rwa [← Config.width_eq wf.1, Nat.mod_eq_of_lt fits', Nat.mod_eq_of_lt fits] at low
  exact ⟨whole, others, (State.hostReadWide_idle (by rwa [cfg_eq]) wf' high' idle').trans whole⟩

end Sys2Proof.Machine

namespace Sys2Proof.Machine

/-! ## R91: the fields of a command word -/

/-- The field values fit their fields. -/
abbrev FieldsFit (op x a b c : Nat) : Prop := op < 16 ∧ x < 2 ∧ a < 256 ∧ b < 256 ∧ c < 256

/-- The fields of a word fit. -/
theorem bits_fit (v : Word) : FieldsFit (bits v 3 0) (bits v 4 4) (bits v 15 8) (bits v 23 16) (bits v 31 24) :=
  have bits_lt (hi lo : Nat) : bits v hi lo < 2 ^ (hi - lo + 1) := Nat.mod_lt _ (Nat.two_pow_pos _)
  ⟨bits_lt 3 0, bits_lt 4 4, bits_lt 15 8, bits_lt 23 16, bits_lt 31 24⟩

/-- R91: a word is packed from given fields exactly when they are its fields and its RSV is 0. -/
theorem eq_packFields_iff {op x a b c : Nat} (fit : FieldsFit op x a b c) (v : Word) :
    v = packFields op x a b c ↔
      bits v 3 0 = op ∧ bits v 4 4 = x ∧ bits v 7 5 = 0 ∧
        bits v 15 8 = a ∧ bits v 23 16 = b ∧ bits v 31 24 = c := by
  obtain ⟨hop, hx, ha, hb, hc⟩ := fit
  have v_lt := v.isLt
  simp only [← BitVec.toNat_inj, packFields, bits, BitVec.toNat_ofNat, Nat.reducePow, Nat.reduceSub,
    Nat.reduceAdd] at v_lt ⊢
  omega

/-- R94: the decoder reads the fields back from the word that packs them. -/
theorem decode_packFields {op x a b c : Nat} (fit : FieldsFit op x a b c) :
    decode (packFields op x a b c) = decodeFields op x 0 a b c := by
  obtain ⟨hop, hx, hrsv, ha, hb, hc⟩ := (eq_packFields_iff fit _).1 rfl
  rw [decode, hop, hx, hrsv, ha, hb, hc]

/-! ## R93, R99: the word of a command -/

/-- R91: when the operands of a command of two operand fields fit. -/
theorem fitsTwo_iff {a b : Nat} : (fitsField a && fitsField b) = true ↔ a < 256 ∧ b < 256 := by
  simp [fitsField]

/-- R91: when the operands of a command of three operand fields fit. -/
theorem fitsThree_iff {a b c : Nat} :
    (fitsField a && fitsField b && fitsField c) = true ↔ a < 256 ∧ b < 256 ∧ c < 256 := by
  simp [fitsField, and_assoc]

/-- R93: the fields of a command of two operand fields fit. -/
theorem fieldsFit_two {op x a b : Nat} (hop : op < 16) (hx : x < 2) (fits : (fitsField a && fitsField b) = true) :
    FieldsFit op x a b 0 :=
  have ⟨ha, hb⟩ := fitsTwo_iff.1 fits
  ⟨hop, hx, ha, hb, by decide⟩

/-- R93: the fields of MONTMUL fit. -/
theorem fieldsFit_three {op a b c : Nat} (hop : op < 16) (fits : (fitsField a && fitsField b && fitsField c) = true) :
    FieldsFit op 0 a b c :=
  ⟨hop, by decide, fitsThree_iff.1 fits⟩

/-- Settles O2: the fields of the word are the OP of the command's row and its operands, and they decode to it. -/
theorem encodeThenDecode : Obligations.EncodeThenDecode := by
  intro i fits
  cases i with
  | nop => exact decode_packFields (by decide)
  | check => exact decode_packFields (by decide)
  | chainInit => exact decode_packFields (by decide)
  | ecbEnc start count => exact decode_packFields (fieldsFit_two (by decide) (by decide) fits)
  | ecbDec start count => exact decode_packFields (fieldsFit_two (by decide) (by decide) fits)
  | cbcEnc start count => exact decode_packFields (fieldsFit_two (by decide) (by decide) fits)
  | cbcDec start count => exact decode_packFields (fieldsFit_two (by decide) (by decide) fits)
  | modexp x src dst =>
    cases x with
    | keyE => exact decode_packFields (fieldsFit_two (by decide) (by decide) fits)
    | keyD => exact decode_packFields (fieldsFit_two (by decide) (by decide) fits)
  | montmul srcA srcB dst => exact decode_packFields (fieldsFit_three (by decide) fits)

/-! ## R94: the decoder and the rows of R93 -/

/-- R93: a control command has no other field than OP. -/
theorem decodeControl_eq_ok_iff {i j : Instr} {x a b c : Nat} :
    decodeControl i x a b c = .ok j ↔ x = 0 ∧ (a = 0 ∧ b = 0 ∧ c = 0) ∧ i = j := by
  unfold decodeControl
  split_ifs with hx habc
  · simp [hx]
  · exact iff_of_false nofun fun ⟨_, zero, _⟩ => by omega
  · simp only [Except.ok.injEq]
    exact ⟨fun same => ⟨by omega, by omega, same⟩, fun ⟨_, _, same⟩ => same⟩

/-- R93: a sequence command has X = 0 and C = 0. -/
theorem decodeSequence_eq_ok_iff {i j : Instr} {x c : Nat} :
    decodeSequence i x c = .ok j ↔ x = 0 ∧ c = 0 ∧ i = j := by
  unfold decodeSequence
  split_ifs <;> simp_all

/-- R93: MODEXP has C = 0. -/
theorem decodeModexp_eq_ok_iff {x a b c : Nat} {j : Instr} :
    decodeModexp x a b c = .ok j ↔ c = 0 ∧ .modexp (selectOf x) a b = j := by
  unfold decodeModexp
  split_ifs <;> simp_all

/-- R93: MONTMUL has X = 0. -/
theorem decodeMontmul_eq_ok_iff {x a b c : Nat} {j : Instr} :
    decodeMontmul x a b c = .ok j ↔ x = 0 ∧ .montmul a b c = j := by
  unfold decodeMontmul
  split_ifs <;> simp_all

/-- R91: the two readings of the bit X. -/
theorem selectOf_eq {x : Nat} (hx : x < 2) : selectOf x = if x = 1 then .keyD else .keyE := by
  interval_cases x <;> rfl

/-- R91: the exponent select that is read from a bit X has that bit. -/
theorem selectBit_selectOf {x : Nat} (hx : x < 2) : selectBit (selectOf x) = x := by
  interval_cases x <;> rfl

/-- R96: fields with a RSV other than 0 do not decode. -/
theorem decodeFields_reserved {op x rsv a b c : Nat} (hrsv : rsv ≠ 0) (i : Instr) :
    decodeFields op x rsv a b c ≠ .ok i := by
  unfold decodeFields
  split_ifs <;> exact nofun

/-- R94: the fields decode to a command exactly when they are not ILLEGAL and it is the command of their row. -/
theorem decodeFields_eq_ok_iff {op x a b c : Nat} (rsv : Nat) (fit : FieldsFit op x a b c) (i : Instr) :
    decodeFields op x rsv a b c = .ok i ↔ ¬IllegalFields op x rsv a b c ∧ rowCommand op x a b c = some i := by
  obtain ⟨hop, hx, -⟩ := fit
  by_cases hrsv : rsv = 0
  · interval_cases op <;>
      simp [decodeFields, rowCommand, hrsv, decodeControl_eq_ok_iff, decodeSequence_eq_ok_iff, decodeModexp_eq_ok_iff,
        decodeMontmul_eq_ok_iff, selectOf_eq hx, and_assoc]
  · exact iff_of_false (decodeFields_reserved hrsv i) fun ⟨legal, _⟩ => legal (.inr (.inl hrsv))

/-- R94: a word decodes to a command exactly when its fields are not ILLEGAL and it is the command of their row. -/
theorem decode_eq_ok_iff_row (v : Word) (i : Instr) :
    decode v = .ok i ↔
      ¬IllegalFields (bits v 3 0) (bits v 4 4) (bits v 7 5) (bits v 15 8) (bits v 23 16) (bits v 31 24) ∧
        rowCommand (bits v 3 0) (bits v 4 4) (bits v 15 8) (bits v 23 16) (bits v 31 24) = some i :=
  decodeFields_eq_ok_iff _ (bits_fit v) i

/-- R93, R95: an OP that is not reserved has a row. -/
theorem exists_rowCommand {op : Nat} (hop : op < 16) (unreserved : op ∉ [0x3, 0xA, 0xB, 0xC, 0xD, 0xE, 0xF])
    (x a b c : Nat) : ∃ i, rowCommand op x a b c = some i := by
  interval_cases op <;> simp [rowCommand] at unreserved ⊢

/-- R93, R99: fields that are not ILLEGAL are those of the encoding of their row's command. -/
theorem encode_of_rowCommand {op x rsv a b c : Nat} {i : Instr} (hx : x < 2)
    (legal : ¬IllegalFields op x rsv a b c) (row : rowCommand op x a b c = some i) :
    encode i = packFields op x a b c := by
  unfold rowCommand at row
  split at row <;> cases row <;> simp_all [encode, ← selectOf_eq hx, selectBit_selectOf hx]

/-- R92: the command of a row is well formed when its fields fit. -/
theorem wellFormed_of_rowCommand {op x a b c : Nat} {i : Instr} (fit : FieldsFit op x a b c)
    (row : rowCommand op x a b c = some i) : i.wellFormed = true := by
  obtain ⟨-, -, ha, hb, hc⟩ := fit
  unfold rowCommand at row
  split at row <;> cases row <;> simp [Instr.wellFormed, fitsField, ha, hb, hc]

/-- Settles O3: the fields of a word that decodes are those of its row's command (`encode_of_rowCommand`), and they make
up the whole word (`eq_packFields_iff`). -/
theorem decodeThenEncode : Obligations.DecodeThenEncode := by
  intro v i decodes
  obtain ⟨legal, row⟩ := (decode_eq_ok_iff_row v i).1 decodes
  have fit := bits_fit v
  have hrsv : bits v 7 5 = 0 := by_contra fun h => legal (.inr (.inl h))
  have packed := (eq_packFields_iff fit v).2 ⟨rfl, rfl, hrsv, rfl, rfl, rfl⟩
  exact ⟨(encode_of_rowCommand fit.2.1 legal row).trans packed.symm, wellFormed_of_rowCommand fit row⟩

/-- R95: fields that are ILLEGAL do not decode. -/
theorem exists_decode_error {v : Word}
    (illegal : IllegalFields (bits v 3 0) (bits v 4 4) (bits v 7 5) (bits v 15 8) (bits v 23 16) (bits v 31 24)) :
    ∃ e, decode v = .error e := by
  cases decodes : decode v with
  | error e => exact ⟨e, rfl⟩
  | ok i => exact absurd illegal ((decode_eq_ok_iff_row v i).1 decodes).1

/-- R95, R221: the engine's turn on a pending word that does not decode. -/
theorem engineTurn_illegal {s : State} {v : Word} {e : DecodeError} (high : s.rstN = true) (pend : s.pending = some v)
    (rejected : decode v = .error e) : engineTurn s = .next (s.errEnd 1 0) := by
  rw [engineTurn_busy s v high pend, runCommand, rejected]
  rfl

/-- Settles O4: ILLEGAL fields do not decode, and a word that does not decode ends with ILLEGAL; other fields decode to
the command of their row, which exists because their OP is not reserved. -/
theorem decodeFollowsR94 : Obligations.DecodeFollowsR94 := by
  intro v
  constructor
  · intro illegal
    obtain ⟨e, rejected⟩ := exists_decode_error illegal
    exact ⟨⟨e, rejected⟩, fun s high pend => engineTurn_illegal high pend rejected⟩
  · intro legal
    have unreserved := fun reserved => legal (.inl reserved)
    obtain ⟨i, row⟩ := exists_rowCommand (bits_fit v).1 unreserved (bits v 4 4) (bits v 15 8) (bits v 23 16)
      (bits v 31 24)
    exact ⟨i, (decode_eq_ok_iff_row v i).2 ⟨legal, row⟩, row⟩

/-! ## opcode_table.json: masks and match values -/

/-- R96: the one word that decodes to a well-formed command is its encoding. -/
theorem decode_eq_ok_iff_encode (v : Word) (i : Instr) : decode v = .ok i ↔ i.wellFormed = true ∧ v = encode i := by
  constructor
  · intro decodes
    obtain ⟨encoded, wellFormed⟩ := decodeThenEncode v i decodes
    exact ⟨wellFormed, encoded.symm⟩
  · rintro ⟨wellFormed, rfl⟩
    exact encodeThenDecode i wellFormed

/-- The field of a masked word is the masked field. -/
theorem bits_and (v m : Word) (hi lo : Nat) : bits (v &&& m) hi lo = bits v hi lo &&& bits m hi lo := by
  simp only [bits, BitVec.toNat_and, Nat.and_div_two_pow, Nat.and_mod_two_pow]

/-- A field that the mask covers is kept. -/
theorem bits_and_covered (v : Word) {m : Word} {hi lo : Nat} (covered : bits m hi lo = 2 ^ (hi - lo + 1) - 1) :
    bits (v &&& m) hi lo = bits v hi lo := by
  rw [bits_and, covered, Nat.and_two_pow_sub_one_eq_mod, bits, Nat.mod_mod]

/-- A field that the mask leaves out is 0. -/
theorem bits_and_uncovered (v : Word) {m : Word} {hi lo : Nat} (uncovered : bits m hi lo = 0) :
    bits (v &&& m) hi lo = 0 := by
  rw [bits_and, uncovered, Nat.and_zero]

/-- The words that match a row with A and B free: the two fields are read from the word. -/
theorem mask_sequence_iff {op : Nat} (hop : op < 16) (v : Word) :
    v &&& 0xFF0000FF = packFields op 0 0 0 0 ↔
      ∃ a b, (fitsField a && fitsField b) = true ∧ v = packFields op 0 a b 0 := by
  obtain ⟨-, -, ha, hb, -⟩ := bits_fit v
  rw [eq_packFields_iff ⟨hop, by decide⟩]
  simp (disch := decide) only [bits_and_covered, bits_and_uncovered, true_and]
  constructor
  · rintro ⟨hop', hx, hrsv, hc⟩
    have fits := fitsTwo_iff.2 ⟨ha, hb⟩
    have fit := fieldsFit_two hop (x := 0) (by decide) fits
    exact ⟨_, _, fits, (eq_packFields_iff fit v).2 ⟨hop', hx, hrsv, rfl, rfl, hc⟩⟩
  · rintro ⟨a, b, fits, packed⟩
    obtain ⟨hop', hx, hrsv, -, -, hc⟩ := (eq_packFields_iff (fieldsFit_two hop (by decide) fits) v).1 packed
    exact ⟨hop', hx, hrsv, hc⟩

/-- R91: the bit X of an exponent select fits. -/
theorem selectBit_lt (x : ExpSel) : selectBit x < 2 := by
  cases x <;> decide

/-- The words that match the row of MODEXP, with X, A and B free. -/
theorem mask_modexp_iff (v : Word) :
    v &&& 0xFF0000EF = packFields 8 0 0 0 0 ↔
      ∃ x a b, (fitsField a && fitsField b) = true ∧ v = packFields 8 (selectBit x) a b 0 := by
  obtain ⟨-, hx, ha, hb, -⟩ := bits_fit v
  rw [eq_packFields_iff (by decide)]
  simp (disch := decide) only [bits_and_covered, bits_and_uncovered, true_and]
  constructor
  · rintro ⟨hop, hrsv, hc⟩
    have fits := fitsTwo_iff.2 ⟨ha, hb⟩
    have fit := fieldsFit_two (op := 8) (by decide) (selectBit_lt (selectOf (bits v 4 4))) fits
    exact ⟨_, _, _, fits, (eq_packFields_iff fit v).2 ⟨hop, (selectBit_selectOf hx).symm, hrsv, rfl, rfl, hc⟩⟩
  · rintro ⟨x, a, b, fits, packed⟩
    have fit := fieldsFit_two (op := 8) (by decide) (selectBit_lt x) fits
    obtain ⟨hop, -, hrsv, -, -, hc⟩ := (eq_packFields_iff fit v).1 packed
    exact ⟨hop, hrsv, hc⟩

/-- The words that match the row of MONTMUL, with A, B and C free. -/
theorem mask_montmul_iff (v : Word) :
    v &&& 0x000000FF = packFields 9 0 0 0 0 ↔
      ∃ a b c, (fitsField a && fitsField b && fitsField c) = true ∧ v = packFields 9 0 a b c := by
  obtain ⟨-, -, abc⟩ := bits_fit v
  rw [eq_packFields_iff (by decide)]
  simp (disch := decide) only [bits_and_covered, bits_and_uncovered, and_true]
  constructor
  · rintro ⟨hop, hx, hrsv⟩
    have fits := fitsThree_iff.2 abc
    have fit := fieldsFit_three (op := 9) (by decide) fits
    exact ⟨_, _, _, fits, (eq_packFields_iff fit v).2 ⟨hop, hx, hrsv, rfl, rfl, rfl⟩⟩
  · rintro ⟨a, b, c, fits, packed⟩
    obtain ⟨hop, hx, hrsv, -⟩ := (eq_packFields_iff (fieldsFit_three (by decide) fits) v).1 packed
    exact ⟨hop, hx, hrsv⟩

/-- The one word that matches a row without a free field. -/
theorem mask_control_iff {i : Instr} (wellFormed : i.wellFormed = true) (v : Word) :
    v &&& 0xFFFFFFFF = encode i ↔ decode v = .ok i := by
  have full : v &&& 0xFFFFFFFF = v := BitVec.and_allOnes
  rw [full, decode_eq_ok_iff_encode, and_iff_right wellFormed]

/-- Settles O5: a command of a row is decoded exactly from the words that pack the row's OP with operands that fit. -/
theorem opcodeTableRows : Obligations.OpcodeTableRows := by
  intro v
  refine ⟨mask_control_iff (i := .nop) rfl v, mask_control_iff (i := .check) rfl v,
    mask_control_iff (i := .chainInit) rfl v, ?_⟩
  simp only [decode_eq_ok_iff_encode]
  exact ⟨mask_sequence_iff (by decide) v, mask_sequence_iff (by decide) v, mask_sequence_iff (by decide) v,
    mask_sequence_iff (by decide) v, mask_modexp_iff v, mask_montmul_iff v⟩

/-- Settles O1: each word is evaluated. -/
theorem decodesSpecWords : Obligations.DecodesSpecWords := by
  unfold Obligations.DecodesSpecWords
  decide

/-! ## R95, R220: a reserved opcode on the bus -/

/-- R220: while BUSY = 0 a write to CMD accepts the word. -/
theorem State.writeWord_cmd_idle {s : State} (idle : s.pending = none) (v : Word) :
    s.writeWord .cmd v = s.accept v := by
  simp [State.writeWord, State.busy, idle]

/-- Settles O6: the CMD write is accepted, and the engine's turn that follows rejects the word (`decodeFollowsR94`). -/
theorem reservedOpcodeIsIllegal : Obligations.ReservedOpcodeIsIllegal := by
  intro s v rest moves idle reserved
  have accepted := step_controlWrite .cmd nofun moves
  rw [State.writeWord_cmd_idle idle] at accepted
  refine ⟨_, none, accepted, rfl, ?_⟩
  rw [step_cons _ .engine rest rfl]
  exact ((decodeFollowsR94 v).1 (.inl reserved)).2 _ moves.1 rfl

/-! ## R225: the checks of a sequence command -/

/-- R110: the block-size check in the words of the rule. -/
theorem State.sizeOK_iff (s : State) : s.sizeOK = true ↔ s.sizeValid := decide_eq_true_iff

section
variable {s : State} {start count : Nat} (body : Nat → State → CmdEnd)

/-- R98: a run that passes NBUF is refused first. -/
theorem sequenceCommand_index (past : s.cfg.nbuf < start + count) :
    sequenceCommand body start count s = .next (s.raiseError .index 0) := by
  have run : s.runOK start count = false := by simpa [State.runOK] using past
  simpa [run] using sequenceCommand_cases body start count s

/-- R110: then an invalid block size is refused. -/
theorem sequenceCommand_blockSize (fits : start + count ≤ s.cfg.nbuf) (invalid : ¬s.sizeValid) :
    sequenceCommand body start count s = .next (s.raiseError .blockSize 0) := by
  have run := (s.runOK_iff start count).2 fits
  have size : s.sizeOK = false := by rwa [← s.sizeOK_iff, Bool.not_eq_true] at invalid
  simpa [run, size] using sequenceCommand_cases body start count s

/-- R130: then an even modulus is refused. -/
theorem sequenceCommand_modulus (fits : start + count ≤ s.cfg.nbuf) (valid : s.sizeValid) (even : s.keyN % 2 = 0) :
    sequenceCommand body start count s = .next (s.raiseError .modulus 0) := by
  have run := (s.runOK_iff start count).2 fits
  have size := s.sizeOK_iff.2 valid
  have modulus : modulusOK s.keyN = false := by simp [modulusOK, even]
  simpa [run, size, modulus] using sequenceCommand_cases body start count s

end

/-- Settles O30: each of the four is a `sequenceCommand`, whose checks refuse in this order. -/
theorem sequenceChecksInOrder : Obligations.SequenceChecksInOrder := by
  intro s start count i sequence
  obtain ⟨body, runs⟩ : ∃ body, exec i s = sequenceCommand body start count s := by
    simp only [List.mem_cons, List.not_mem_nil, or_false] at sequence
    rcases sequence with rfl | rfl | rfl | rfl <;> exact ⟨_, rfl⟩
  rw [runs]
  exact ⟨sequenceCommand_index body, sequenceCommand_blockSize body, sequenceCommand_modulus body⟩

end Sys2Proof.Machine

namespace Sys2Proof.Machine

/-! ## R110: what a valid block size implies -/

/-- R12: a value with more than `k` bits is at least 2^k. -/
theorem two_pow_le_of_lt_bitLength {k v : Nat} (h : k < bitLength v) : 2 ^ k ≤ v := by
  have nonzero : v ≠ 0 := by
    rintro rfl
    exact Nat.not_lt_zero k h
  calc 2 ^ k ≤ 2 ^ (bitLength v - 1) := Nat.pow_le_pow_right two_pos (Nat.le_sub_one_of_lt h)
    _ ≤ v := two_pow_le_of_bitLength v nonzero

/-- R110: a valid block size leaves room for every block below the modulus. -/
theorem State.sizeValid.two_pow_le_keyN {s : State} (valid : s.sizeValid) : 2 ^ (8 * s.bs.toNat) ≤ s.keyN :=
  have ⟨_, below⟩ := valid
  two_pow_le_of_lt_bitLength below

/-- R110: a valid block size is at least one byte, so its blocks take at least 256 values. -/
theorem State.sizeValid.le_two_pow {s : State} (valid : s.sizeValid) : 256 ≤ 2 ^ (8 * s.bs.toNat) :=
  have ⟨positive, _⟩ := valid
  calc 256 = 2 ^ (8 * 1) := rfl
    _ ≤ 2 ^ (8 * s.bs.toNat) := Nat.pow_le_pow_right two_pos (Nat.mul_le_mul_left 8 positive)

/-- Settles O27: all four bounds follow from 256 <= 2^(8*bs) <= KEY_N < 2^W. -/
theorem validSizeBoundsMask : Obligations.ValidSizeBoundsMask := by
  intro s wf valid
  obtain ⟨-, -, ⟨keyN_lt, -⟩, -⟩ := wf
  have radix_le := valid.two_pow_le_keyN
  have le_radix := valid.le_two_pow
  refine ⟨radix_le, le_radix.trans radix_le, by omega, ?_⟩
  exact (Nat.pow_lt_pow_iff_right one_lt_two).1 (radix_le.trans_lt keyN_lt)

/-! ## R111 to R113: the control commands -/

/-- Settles O18: NOP is `complete()` alone (R111, R223). -/
theorem nopCompletes : Obligations.NopCompletes := fun _ => rfl

/-- R110: the block-size check fails exactly on an invalid block size. -/
theorem State.sizeOK_eq_false_iff (s : State) : s.sizeOK = false ↔ ¬s.sizeValid := by
  rw [← s.sizeOK_iff, Bool.not_eq_true]

/-- R112: what CHECK does, by the validity of the block size. -/
theorem execCheck_eq (s : State) :
    execCheck s = if s.sizeValid then .next s.complete else .next (s.raiseError .blockSize 0) := by
  simp only [execCheck, s.sizeOK_eq_false_iff, ite_not]

/-- R113: what CHAIN_INIT does, by the validity of the block size; the mask is reduction modulo 2^(8*BS). -/
theorem execChainInit_eq (s : State) :
    execChainInit s =
      if s.sizeValid then .next (s.setPrev (s.iv % 2 ^ (8 * s.bs.toNat))).complete
      else .next (s.raiseError .blockSize 0) := by
  simp only [execChainInit, s.sizeOK_eq_false_iff, ite_not, and_mask, State.blockSize]

/-- Settles O19: one clause per branch of `execCheck_eq`. -/
theorem checkReportsBlockSize : Obligations.CheckReportsBlockSize := fun s =>
  ⟨fun valid => (execCheck_eq s).trans (if_pos valid), fun invalid => (execCheck_eq s).trans (if_neg invalid)⟩

/-- Settles O20: one clause per branch of `execChainInit_eq`. -/
theorem chainInitMasksIv : Obligations.ChainInitMasksIv := fun s =>
  ⟨fun valid => (execChainInit_eq s).trans (if_pos valid),
    fun invalid => (execChainInit_eq s).trans (if_neg invalid)⟩

end Sys2Proof.Machine

namespace Sys2Proof.Machine

/-! ## R135: the Montgomery product modulo n -/

section
variable {n : Nat} (w : Nat) (odd : n % 2 = 1)
include odd

/-- R135: Rinv is below the modulus. -/
theorem radixInv_lt : radixInv w n < n := by
  rw [radixInv, powmod_eq]
  exact Nat.mod_lt _ (by omega)

/-- R135: Rinv is the inverse of the radix, as (n + 1)/2 is the inverse of 2. -/
theorem radix_mul_radixInv : 2 ^ w * radixInv w n ≡ 1 [MOD n] := by
  have half : 2 * ((n + 1) / 2) ≡ 1 [MOD n] := by
    rw [show 2 * ((n + 1) / 2) = n + 1 by omega]
    exact Nat.add_mod_left n 1
  calc 2 ^ w * radixInv w n ≡ 2 ^ w * ((n + 1) / 2) ^ w [MOD n] := by
        rw [radixInv, powmod_eq]
        exact (Nat.mod_modEq _ n).mul_left _
    _ = (2 * ((n + 1) / 2)) ^ w := (mul_pow ..).symm
    _ ≡ 1 ^ w [MOD n] := half.pow w
    _ = 1 := one_pow w

/-- R135: the product by the radix is undone by the product by Rinv. -/
theorem mul_radix_mul_radixInv (r : Nat) : r * 2 ^ w * radixInv w n ≡ r [MOD n] := by
  simpa [mul_assoc] using (radix_mul_radixInv w odd).mul_left r

/-- R135: MonPro times the radix is the product. -/
theorem monPro_mul_radix (a b : Nat) : monPro w a b n * 2 ^ w ≡ a * b [MOD n] :=
  calc monPro w a b n * 2 ^ w ≡ a * b * radixInv w n * 2 ^ w [MOD n] := (Nat.mod_modEq _ n).mul_right _
    _ = a * b * 2 ^ w * radixInv w n := mul_right_comm ..
    _ ≡ a * b [MOD n] := mul_radix_mul_radixInv w odd _

/-- R135: MonPro is the one value below the modulus whose product with the radix is that of the operands. -/
theorem monPro_unique {a b r : Nat} (below : r < n) (product : r * 2 ^ w ≡ a * b [MOD n]) : r = monPro w a b n :=
  Nat.ModEq.eq_of_lt_of_lt
    ((mul_radix_mul_radixInv w odd r).symm.trans ((product.mul_right _).trans (Nat.mod_modEq _ n).symm))
    below (Nat.mod_lt _ (by omega))

end

/-- Settles O25: Rinv is `radixInv`, and any other inverse of the radix is congruent to it. -/
theorem monProIsProductByInverse : Obligations.MonProIsProductByInverse := by
  intro w n odd
  refine ⟨radixInv w n, ⟨radixInv_lt w odd, radix_mul_radixInv w odd⟩, fun r below inverse => ?_,
    fun a b _ _ => ⟨rfl, Nat.mod_lt _ (by omega)⟩⟩
  have congruent : r ≡ radixInv w n [MOD n] :=
    calc r ≡ r * 2 ^ w * radixInv w n [MOD n] := (mul_radix_mul_radixInv w odd r).symm
      _ = 2 ^ w * r * radixInv w n := by rw [mul_comm r]
      _ ≡ 1 * radixInv w n [MOD n] := Nat.ModEq.mul_right _ inverse
      _ = radixInv w n := one_mul _
  exact congruent.eq_of_lt_of_lt below (radixInv_lt w odd)

/-! ## R137: the word-serial Montgomery product -/

/-- R44: N^(2^31 - 1) is the inverse of an odd N modulo 2^32, by Euler's theorem. -/
theorem mul_pow_inverse {n : Nat} (odd : n % 2 = 1) : n * n ^ (2 ^ 31 - 1) ≡ 1 [MOD 2 ^ 32] := by
  have coprime : Nat.Coprime n (2 ^ 32) := (Nat.odd_iff.2 odd).coprime_two_right.pow_right 32
  have totient : Nat.totient (2 ^ 32) = 2 ^ 31 := Nat.totient_prime_pow_succ Nat.prime_two 31
  rw [mul_pow_sub_one (by norm_num), ← totient]
  exact Nat.ModEq.pow_totient coprime

/-- R44: N' is the negated inverse of an odd N modulo 2^32. -/
theorem mul_negInv32 {n : Nat} (odd : n % 2 = 1) : n * negInv32 n + 1 ≡ 0 [MOD 2 ^ 32] := by
  have inverse : n * powmod n (2 ^ 31 - 1) (2 ^ 32) ≡ 1 [MOD 2 ^ 32] := by
    rw [powmod_eq]
    exact ((Nat.mod_modEq _ _).mul_left n).trans (mul_pow_inverse odd)
  have below : powmod n (2 ^ 31 - 1) (2 ^ 32) ≤ 2 ^ 32 := by
    rw [powmod_eq]
    exact (Nat.mod_lt _ (Nat.two_pow_pos 32)).le
  unfold negInv32
  generalize powmod n (2 ^ 31 - 1) (2 ^ 32) = m at inverse below
  calc n * ((2 ^ 32 - m) % 2 ^ 32) + 1 ≡ n * (2 ^ 32 - m) + n * m [MOD 2 ^ 32] :=
        ((Nat.mod_modEq _ _).mul_left n).add inverse.symm
    _ = n * 2 ^ 32 := by rw [← mul_add, Nat.sub_add_cancel below]
    _ ≡ 0 [MOD 2 ^ 32] := Nat.mul_mod_left n _

/-- R137: what the digit adds makes the sum divisible by the digit's radix, so the division by it is exact. -/
theorem montDigit_mul {n n' : Nat} (inverse : n * n' + 1 ≡ 0 [MOD 2 ^ 32]) (ai b t : Nat) :
    montDigit n n' ai b t * 2 ^ 32 = t + ai * b + (t + ai * b) % 2 ^ 32 * n' % 2 ^ 32 * n := by
  refine Nat.div_mul_cancel ((Nat.modEq_zero_iff_dvd).1 ?_)
  generalize t + ai * b = x
  calc x + x % 2 ^ 32 * n' % 2 ^ 32 * n ≡ x + x * n' * n [MOD 2 ^ 32] :=
        (((Nat.mod_modEq _ _).trans ((Nat.mod_modEq _ _).mul_right n')).mul_right n).add_left x
    _ = x * (n * n' + 1) := by ring
    _ ≡ x * 0 [MOD 2 ^ 32] := inverse.mul_left x
    _ = 0 := mul_zero x

/-- R137: the accumulator `t` after the first `i` digits of `a`: below 2n, and congruent to the product of those digits
by `b` when the division by their radix is undone. -/
structure DigitsDone (n a b i t : Nat) : Prop where
  below : t < 2 * n
  product : t * 2 ^ (32 * i) ≡ a % 2 ^ (32 * i) * b [MOD n]

section
variable {n n' a b : Nat} (inverse : n * n' + 1 ≡ 0 [MOD 2 ^ 32]) (hb : b ≤ n)
include inverse hb

/-- R137: the next digit. -/
theorem DigitsDone.next {i t : Nat} (h : DigitsDone n a b i t) :
    DigitsDone n a b (i + 1) (montDigit n n' (wordOf a i) b t) := by
  have exact_div := montDigit_mul inverse (wordOf a i) b t
  generalize montDigit n n' (wordOf a i) b t = t' at exact_div
  refine ⟨?_, ?_⟩
  · have digit : wordOf a i * b ≤ (2 ^ 32 - 1) * n := Nat.mul_le_mul (Nat.le_sub_one_of_lt (wordOf_lt a i)) hb
    have added : (t + wordOf a i * b) % 2 ^ 32 * n' % 2 ^ 32 * n ≤ (2 ^ 32 - 1) * n :=
      Nat.mul_le_mul_right n (Nat.le_sub_one_of_lt (Nat.mod_lt _ (Nat.two_pow_pos 32)))
    have below := h.below
    omega
  · have undone : t' * 2 ^ 32 ≡ t + wordOf a i * b [MOD n] := by
      rw [exact_div]
      exact Nat.add_mul_mod_self_right _ _ n
    calc t' * 2 ^ (32 * (i + 1)) = t' * 2 ^ 32 * 2 ^ (32 * i) := by ring
      _ ≡ (t + wordOf a i * b) * 2 ^ (32 * i) [MOD n] := undone.mul_right _
      _ = t * 2 ^ (32 * i) + 2 ^ (32 * i) * wordOf a i * b := by ring
      _ ≡ a % 2 ^ (32 * i) * b + 2 ^ (32 * i) * wordOf a i * b [MOD n] := h.product.add_right _
      _ = a % 2 ^ (32 * (i + 1)) * b := by rw [mod_word_succ, add_mul]

/-- R137: the digits i, ..., i + k - 1. -/
theorem DigitsDone.digits : ∀ {k i t : Nat}, DigitsDone n a b i t → DigitsDone n a b (i + k) (montDigits n n' a b k i t)
  | 0, _, _, h => h
  | k + 1, i, _, h => by
    rw [show i + (k + 1) = i + 1 + k by omega]
    exact DigitsDone.digits (h.next inverse hb)

end

/-- R137: the word-serial product is MonPro, also for a second operand equal to the modulus (as 1 is when n = 1). -/
theorem montgomeryMult_eq_monPro {w a b n : Nat} (words : w % 32 = 0) (odd : n % 2 = 1) (ha : a < 2 ^ w) (hb : b ≤ n) :
    montgomeryMult w a b n = monPro w a b n := by
  have width : 32 * (0 + w / 32) = w := by omega
  have start : DigitsDone n a b 0 0 := ⟨by omega, by rw [mul_zero, pow_zero, Nat.mod_one, zero_mul, zero_mul]⟩
  obtain ⟨below, product⟩ := start.digits (mul_negInv32 odd) hb (k := w / 32)
  rw [width, Nat.mod_eq_of_lt ha] at product
  simp only [montgomeryMult]
  generalize montDigits n (negInv32 n) a b (w / 32) 0 0 = t at below product ⊢
  split
  · rename_i le
    have dropped : t - n ≡ t [MOD n] := (Nat.mod_eq_sub_mod le).symm
    exact monPro_unique w odd (by omega) ((dropped.mul_right _).trans product)
  · exact monPro_unique w odd (by omega) product

/-- Settles O28: an operand below n is below 2^W. -/
theorem montgomeryMultRefinesMonPro : Obligations.MontgomeryMultRefinesMonPro :=
  fun _ _ _ _ words odd fits ha hb => montgomeryMult_eq_monPro words odd (ha.trans fits) hb.le

/-! ## R136: exponentiation in the Montgomery domain -/

/-- R136: `a` represents `y` in the Montgomery domain modulo `n`. -/
structure MontForm (w n a y : Nat) : Prop where
  below : a < n
  form : a ≡ y * 2 ^ w [MOD n]

section
variable {w n : Nat} (words : w % 32 = 0) (odd : n % 2 = 1) (fits : n < 2 ^ w)
include words odd fits

/-- R136: the Montgomery product by the form of `y` is the product by `y`. -/
theorem montgomeryMult_form {a b y : Nat} (ha : a < n) (hb : MontForm w n b y) :
    montgomeryMult w a b n < n ∧ montgomeryMult w a b n ≡ a * y [MOD n] := by
  rw [montgomeryMult_eq_monPro words odd (ha.trans fits) hb.below.le]
  refine ⟨Nat.mod_lt _ (by omega), ?_⟩
  calc monPro w a b n ≡ a * b * radixInv w n [MOD n] := Nat.mod_modEq _ n
    _ ≡ a * (y * 2 ^ w) * radixInv w n [MOD n] := (hb.form.mul_left a).mul_right _
    _ = a * y * 2 ^ w * radixInv w n := by rw [mul_assoc a y]
    _ ≡ a * y [MOD n] := mul_radix_mul_radixInv w odd _

/-- R136: the product of two forms is the form of the product. -/
theorem MontForm.mul {a b y z : Nat} (ha : MontForm w n a y) (hb : MontForm w n b z) :
    MontForm w n (montgomeryMult w a b n) (y * z) := by
  obtain ⟨below, product⟩ := montgomeryMult_form words odd fits ha.below hb
  refine ⟨below, product.trans ?_⟩
  rw [mul_right_comm]
  exact ha.form.mul_right z

/-- R136: the product by R2 takes a value into the Montgomery domain. -/
theorem montForm_of_radixSq (y : Nat) : MontForm w n (montgomeryMult w (y % n) (radixSq w n) n) y := by
  have n_pos : 0 < n := by omega
  have square : MontForm w n (radixSq w n) (2 ^ w) := ⟨Nat.mod_lt _ n_pos, Nat.mod_modEq _ n⟩
  obtain ⟨below, product⟩ := montgomeryMult_form words odd fits (Nat.mod_lt y n_pos) square
  exact ⟨below, product.trans ((Nat.mod_modEq y n).mul_right _)⟩

/-- R136: the product by 1 takes a value out of the Montgomery domain. -/
theorem MontForm.out {a y : Nat} (h : MontForm w n a y) : montgomeryMult w a 1 n = y % n := by
  rw [montgomeryMult_eq_monPro words odd (h.below.trans fits) (by omega)]
  refine ((monPro_unique w odd (Nat.mod_lt y (by omega)) ?_)).symm
  rw [mul_one]
  exact ((Nat.mod_modEq y n).mul_right _).trans h.form.symm

/-- R136: the loop over the low `k` bits of the exponent, from the form of the power by its other bits. -/
theorem pipelineSteps_form {v x vm : Nat} (hv : MontForm w n vm v) :
    ∀ {k acc : Nat}, MontForm w n acc (v ^ (x / 2 ^ k)) → MontForm w n (pipelineSteps w n vm x k acc) (v ^ x)
  | 0, _, h => by simpa [pipelineSteps] using h
  | k + 1, acc, h => by
    have high : x / 2 ^ (k + 1) = x / 2 ^ k / 2 := by rw [pow_succ, Nat.div_div_eq_div_mul]
    rw [high] at h
    have square := h.mul words odd fits h
    rw [← pow_add] at square
    rw [pipelineSteps]
    refine pipelineSteps_form hv ?_
    split
    · rw [show x / 2 ^ k = x / 2 ^ k / 2 + x / 2 ^ k / 2 + 1 by omega, pow_succ]
      exact square.mul words odd fits hv
    · rwa [show x / 2 ^ k = x / 2 ^ k / 2 + x / 2 ^ k / 2 by omega]

end

/-- Settles O29: the loop starts at the form of 1, which is the power by no bit, and ends at the form of v^x. -/
theorem modexpPipelineRefinesPower : Obligations.ModexpPipelineRefinesPower := by
  intro w v x n words odd fits
  have none_done : x / 2 ^ bitLength x = 0 := Nat.div_eq_of_lt (lt_two_pow_bitLength x)
  have one_form : MontForm w n (montgomeryMult w (1 % n) (radixSq w n) n) (v ^ (x / 2 ^ bitLength x)) := by
    rw [none_done, pow_zero]
    exact montForm_of_radixSq words odd fits 1
  exact (pipelineSteps_form words odd fits (montForm_of_radixSq words odd fits v) one_form).out words odd fits

/-! ## MODEXP and MONTMUL: their branches in the words of R133, R134 and R225 -/

/-- R98: the index check fails from NBUF on. -/
theorem State.indexOK_eq_false_iff (s : State) (i : Nat) : s.indexOK i = false ↔ s.cfg.nbuf ≤ i := by
  rw [← Bool.not_eq_true, s.indexOK_iff, not_lt]

/-- R130: the modulus check fails on an even modulus. -/
theorem modulusOK_eq_false_iff (n : Nat) : modulusOK n = false ↔ n % 2 = 0 := by
  simp [modulusOK]

/-- R132: the range check fails from the modulus on. -/
theorem outOfRange_iff (v n : Nat) : outOfRange v n = true ↔ n ≤ v := decide_eq_true_iff

/-- R133: what MODEXP does. -/
theorem exec_modexp (s : State) (x : ExpSel) (src dst : Nat) :
    exec (.modexp x src dst) s =
      if s.cfg.nbuf ≤ src ∨ s.cfg.nbuf ≤ dst then .next (s.raiseError .index 0)
      else if s.keyN % 2 = 0 then .next (s.raiseError .modulus 0)
      else if x = .keyE ∧ s.keyN ≤ s.bufAt src then .next (s.raiseError .blockRange src)
      else .next (s.setBuf dst (s.bufAt src ^ s.exponent x % s.keyN)).complete := by
  simp only [exec, execModexp, State.indexOK_eq_false_iff, modulusOK_eq_false_iff, outOfRange_iff, transform_eq]

/-- R134: what MONTMUL does. -/
theorem exec_montmul (s : State) (srcA srcB dst : Nat) :
    exec (.montmul srcA srcB dst) s =
      if s.cfg.nbuf ≤ srcA ∨ s.cfg.nbuf ≤ srcB ∨ s.cfg.nbuf ≤ dst then .next (s.raiseError .index 0)
      else if s.keyN % 2 = 0 then .next (s.raiseError .modulus 0)
      else if s.keyN ≤ s.bufAt srcA then .next (s.raiseError .blockRange srcA)
      else if s.keyN ≤ s.bufAt srcB then .next (s.raiseError .blockRange srcB)
      else .next (s.setBuf dst (monPro s.cfg.w (s.bufAt srcA) (s.bufAt srcB) s.keyN)).complete := by
  simp only [exec, execMontmul, State.indexOK_eq_false_iff, modulusOK_eq_false_iff, outOfRange_iff]

/-- Settles O22: one clause per error branch of `exec_modexp`. -/
theorem modexpErrors : Obligations.ModexpErrors := by
  intro s x src dst
  rw [exec_modexp]
  refine ⟨fun index => if_pos index, fun ⟨hsrc, hdst, even⟩ => ?_, fun ⟨hsrc, hdst, odd, sel, range⟩ => ?_⟩
  · rw [if_neg (by omega), if_pos even]
    rfl
  · rw [if_neg (by omega), if_neg (by omega), if_pos ⟨sel, range⟩]
    rfl

/-- Settles O24: one clause per error branch of `exec_montmul`. -/
theorem montmulErrors : Obligations.MontmulErrors := by
  intro s srcA srcB dst
  rw [exec_montmul]
  refine ⟨fun index => if_pos index, fun ⟨hA, hB, hdst⟩ => ?_⟩
  rw [if_neg (by omega)]
  refine ⟨fun even => if_pos even, fun ⟨odd, rangeA⟩ => ?_, fun ⟨odd, inA, rangeB⟩ => ?_⟩
  · rw [if_neg (by omega), if_pos rangeA]
    rfl
  · rw [if_neg (by omega), if_neg inA.not_ge, if_pos rangeB]
    rfl

/-- R133, R134: the state after a command that writes one result: the entry holds it, and nothing else changes but the
completion fields. -/
theorem State.setBuf_complete_result {s : State} (buf : Buf.wf s.cfg s.buf) {dst : Nat} (hdst : dst < s.cfg.nbuf)
    (v : Nat) :
    (s.setBuf dst v).complete.bufAt dst = v ∧
      (∀ j, j ≠ dst → (s.setBuf dst v).complete.bufAt j = s.bufAt j) ∧
      (s.setBuf dst v).complete = { s.okEnd with buf := (s.setBuf dst v).complete.buf } := by
  obtain ⟨len, -⟩ := buf
  exact ⟨s.setBuf_bufAt_self dst v (len ▸ hdst), fun j hj => s.setBuf_bufAt_ne dst j v hj, rfl⟩

/-- Settles O21: the last branch of `exec_modexp`. -/
theorem modexpComputesPower : Obligations.ModexpComputesPower := by
  intro s x src dst wf hsrc hdst odd range
  obtain ⟨-, buf, -⟩ := wf
  have inRange : ¬(x = .keyE ∧ s.keyN ≤ s.bufAt src) := fun ⟨sel, above⟩ => (range sel).not_ge above
  have runs := exec_modexp s x src dst
  rw [if_neg (by omega), if_neg (by omega), if_neg inRange] at runs
  have result := State.setBuf_complete_result buf hdst (s.bufAt src ^ s.exponent x % s.keyN)
  cases x with
  | keyE => exact ⟨_, runs, result⟩
  | keyD => exact ⟨_, runs, result⟩

/-- Settles O23: the last branch of `exec_montmul`, whose MonPro is the product by the inverse of the radix. -/
theorem montmulComputesProduct : Obligations.MontmulComputesProduct := by
  intro s srcA srcB dst wf hA hB hdst odd inA inB
  obtain ⟨-, buf, -⟩ := wf
  have runs := exec_montmul s srcA srcB dst
  rw [if_neg (by omega), if_neg (by omega), if_neg inA.not_ge, if_neg inB.not_ge] at runs
  obtain ⟨result, others, frame⟩ :=
    State.setBuf_complete_result buf hdst (monPro s.cfg.w (s.bufAt srcA) (s.bufAt srcB) s.keyN)
  refine ⟨_, runs, ?_, ?_, others, frame⟩ <;> rw [result]
  · exact Nat.mod_lt _ (by omega)
  · exact monPro_mul_radix s.cfg.w odd _ _

/-! ## R150, R151: a run of ECB blocks -/

/-- R101: a run completes when each of its blocks does and takes what holds before it to what holds before the next. -/
theorem forBlocks_completes {body : Nat → State → CmdEnd} {P : Nat → State → Prop} {hi : Nat}
    (block : ∀ j u, j < hi → P j u → ∃ v, body j u = .completed v ∧ P (j + 1) v) :
    ∀ k i s, i + k = hi → P i s → ∃ t, forBlocks body k i s = .completed t ∧ P hi t
  | 0, _, s, rfl, h => ⟨s, rfl, h⟩
  | k + 1, i, s, fits, h => by
    obtain ⟨u, runs, hu⟩ := block i s (by omega) h
    obtain ⟨t, rest, ht⟩ := forBlocks_completes block k (i + 1) u (by omega) hu
    exact ⟨t, by simp only [forBlocks, runs, rest], ht⟩

/-- R225: a sequence command whose checks pass is its run. -/
theorem sequenceCommand_run (body : Nat → State → CmdEnd) {s : State} {start count : Nat}
    (fits : start + count ≤ s.cfg.nbuf) (valid : s.sizeValid) (odd : s.keyN % 2 = 1) :
    sequenceCommand body start count s = .next (forBlocks body count start s).finish := by
  have run := (s.runOK_iff start count).2 fits
  have size := s.sizeOK_iff.2 valid
  have modulus : modulusOK s.keyN = true := decide_eq_true odd
  simpa [run, size, modulus] using sequenceCommand_cases body start count s

/-- R131: `u` is `s` but for BUF, where T with the exponent `x` was applied to the entries from `lo` to `hi - 1`. -/
structure State.Transformed (s : State) (x lo hi : Nat) (u : State) : Prop where
  length : u.buf.length = s.buf.length
  frame : u = { s with buf := u.buf }
  entry : ∀ i, u.bufAt i = if lo ≤ i ∧ i < hi then s.bufAt i ^ x % s.keyN else s.bufAt i

section
variable {s : State} {x : Nat}

/-- Before the run nothing is transformed. -/
theorem State.transformed_refl (lo : Nat) : s.Transformed x lo lo s :=
  ⟨rfl, rfl, fun i => (if_neg (by omega)).symm⟩

/-- R101: the next entry still holds its old value, and its transform extends the run. -/
theorem State.Transformed.next {lo i : Nat} {u : State} (h : s.Transformed x lo i u) (hlo : lo ≤ i)
    (hi : i < s.buf.length) : s.Transformed x lo (i + 1) (u.setBuf i (transform (s.bufAt i) x s.keyN)) where
  length := (u.setBuf_length i _).trans h.length
  frame := congrArg (·.setBuf i (transform (s.bufAt i) x s.keyN)) h.frame
  entry j := by
    by_cases hj : j = i
    · subst hj
      rw [u.setBuf_bufAt_self _ _ (h.length ▸ hi), if_pos (by omega), transform_eq]
    · rw [u.setBuf_bufAt_ne _ _ _ hj, h.entry]
      exact if_congr (by omega) rfl rfl

/-- R150, R151: a sequence command whose body writes the transform of each block of the run. -/
theorem sequenceCommand_transforms {body : Nat → State → CmdEnd} {start count : Nat} (wf : s.Wf)
    (fits : start + count ≤ s.cfg.nbuf) (valid : s.sizeValid) (odd : s.keyN % 2 = 1)
    (block : ∀ j u, start ≤ j → j < start + count → u = { s with buf := u.buf } → u.bufAt j = s.bufAt j →
      body j u = .completed (u.setBuf j (transform (s.bufAt j) x s.keyN))) :
    ∃ t, sequenceCommand body start count s = .next t ∧
      (∀ i, t.bufAt i = if start ≤ i ∧ i < start + count then s.bufAt i ^ x % s.keyN else s.bufAt i) ∧
      t = { s.okEnd with buf := t.buf } := by
  obtain ⟨-, ⟨len, -⟩, -⟩ := wf
  have blocks : ∀ j u, j < start + count → start ≤ j ∧ s.Transformed x start j u →
      ∃ v, body j u = .completed v ∧ start ≤ j + 1 ∧ s.Transformed x start (j + 1) v := by
    intro j u hj ⟨lo, done⟩
    have unread : u.bufAt j = s.bufAt j := (done.entry j).trans (if_neg (by omega))
    exact ⟨_, block j u lo hj done.frame unread, by omega, done.next lo (by omega)⟩
  obtain ⟨t, runs, -, done⟩ := forBlocks_completes blocks count start s rfl ⟨le_rfl, State.transformed_refl start⟩
  refine ⟨t.complete, ?_, done.entry, congrArg State.complete done.frame⟩
  rw [sequenceCommand_run body fits valid odd, runs]
  rfl

end

/-- Settles O32: no block of the run fails the range check, so each writes its transform by KEY_E. -/
theorem ecbEncEncryptsRun : Obligations.EcbEncEncryptsRun := by
  intro s start count wf fits valid odd range
  refine sequenceCommand_transforms (body := ecbEncBlock) wf fits valid odd fun j u lo hi frame unread => ?_
  have keyN : u.keyN = s.keyN := by rw [frame]
  have keyE : u.keyE = s.keyE := by rw [frame]
  have inRange : ¬outOfRange (s.bufAt j) s.keyN = true := by
    rw [outOfRange_iff, not_le]
    exact range j lo hi
  rw [ecbEncBlock, unread, keyN, keyE, if_neg inRange]

/-- Settles O34: each block of the run writes its transform by KEY_D. -/
theorem ecbDecDecryptsRun : Obligations.EcbDecDecryptsRun := by
  intro s start count wf fits valid odd
  refine sequenceCommand_transforms (body := ecbDecBlock) wf fits valid odd fun j u _ _ frame unread => ?_
  have keyN : u.keyN = s.keyN := by rw [frame]
  have keyD : u.keyD = s.keyD := by rw [frame]
  rw [ecbDecBlock, unread, keyN, keyD]

end Sys2Proof.Machine

namespace Sys2Proof.Machine

/-! ## R150 to R172: what the four sequence commands share -/

/-- R225: each sequence command is the checks and a run of its own body. -/
theorem exec_eq_sequenceCommand {i : Instr} {start count : Nat} (s : State)
    (sequence : i ∈ [Instr.ecbEnc start count, .ecbDec start count, .cbcEnc start count, .cbcDec start count]) :
    ∃ body, exec i s = sequenceCommand body start count s := by
  simp only [List.mem_cons, List.not_mem_nil, or_false] at sequence
  rcases sequence with rfl | rfl | rfl | rfl <;> exact ⟨_, rfl⟩

/-- Settles O31: the checks pass, and a run of no block is `complete()` alone. -/
theorem emptyRunChangesNothing : Obligations.EmptyRunChangesNothing := by
  intro s start i sequence fits valid odd
  obtain ⟨body, runs⟩ := exec_eq_sequenceCommand s sequence
  exact runs.trans (sequenceCommand_run body fits valid odd)

/-- R225: a sequence command that ends with ERRCODE = 0 passed its three checks. -/
theorem sequence_checks_of_success {i : Instr} {start count : Nat} {s t : State}
    (sequence : i ∈ [Instr.ecbEnc start count, .ecbDec start count, .cbcEnc start count, .cbcDec start count])
    (answer : exec i s = .next t) (success : t.errcode = 0) :
    start + count ≤ s.cfg.nbuf ∧ s.sizeValid ∧ s.keyN % 2 = 1 := by
  obtain ⟨index, blockSize, modulus⟩ := sequenceChecksInOrder s start count i sequence
  have no_error : ∀ code : BitVec 4, code ≠ 0 → exec i s ≠ .next (s.errEnd code 0) := fun code nonzero refused => by
    cases answer.symm.trans refused
    exact nonzero success
  have fits : start + count ≤ s.cfg.nbuf := not_lt.1 fun past => no_error 2 (by decide) (index past)
  have valid : s.sizeValid := by_contra fun invalid => no_error 3 (by decide) (blockSize fits invalid)
  exact ⟨fits, valid, Nat.mod_two_ne_zero.1 fun even => no_error 4 (by decide) (modulus fits valid even)⟩

/-! ## R101, R224: a run that stops at one of its blocks -/

/-- R101: a run goes on after its first `k` blocks. -/
theorem forBlocks_add {body : Nat → State → CmdEnd} {u : State} (l : Nat) :
    ∀ k i s, forBlocks body k i s = .completed u → forBlocks body (k + l) i s = forBlocks body l (i + k) u
  | 0, i, s, h => by
    cases h
    rw [Nat.zero_add, Nat.add_zero]
  | k + 1, i, s, h => by
    rw [Nat.add_right_comm]
    simp only [forBlocks] at h ⊢
    cases block : body i s with
    | completed v =>
      rw [block] at h
      exact (forBlocks_add l k (i + 1) v h).trans (by rw [Nat.add_right_comm, Nat.add_assoc])
    | raised code j v =>
      rw [block] at h
      cases h

/-- R224: a run whose blocks before block `hi` complete, as in `forBlocks_completes`, ends with the error that block
`hi` raises. -/
theorem forBlocks_raises {body : Nat → State → CmdEnd} {P : Nat → State → Prop} {hi : Nat} {code : ErrCode}
    (block : ∀ j u, j < hi → P j u → ∃ v, body j u = .completed v ∧ P (j + 1) v)
    (fails : ∀ u, P hi u → body hi u = .raised code hi u) {k i : Nat} {s : State} (le : i ≤ hi) (lt : hi < i + k)
    (h : P i s) : ∃ t, forBlocks body k i s = .raised code hi t ∧ P hi t := by
  obtain ⟨t, runs, ht⟩ := forBlocks_completes block (hi - i) i s (by omega) h
  obtain ⟨l, rfl⟩ : ∃ l, k = hi - i + (l + 1) := ⟨k - (hi - i) - 1, by omega⟩
  refine ⟨t, ?_, ht⟩
  rw [forBlocks_add (l + 1) (hi - i) i s runs, Nat.add_sub_cancel' le]
  simp only [forBlocks, fails t ht]

/-! ## R150: where ECB_ENC stops -/

/-- R150: what ECB_ENC does with the first block that is not yet encrypted. -/
theorem State.Transformed.ecbEncBlock_eq {s u : State} {x lo j : Nat} (h : s.Transformed x lo j u) :
    ecbEncBlock j u =
      if s.keyN ≤ s.bufAt j then .raised .blockRange j u
      else .completed (u.setBuf j (transform (s.bufAt j) s.keyE s.keyN)) := by
  have unread : u.bufAt j = s.bufAt j := (h.entry j).trans (if_neg (by omega))
  have keyN : u.keyN = s.keyN := by rw [h.frame]
  have keyE : u.keyE = s.keyE := by rw [h.frame]
  simp only [ecbEncBlock, unread, keyN, keyE, outOfRange_iff]

/-- Settles O33: the blocks before j are encrypted, and block j raises BLOCKRANGE. -/
theorem ecbEncStopsAtRangeError : Obligations.EcbEncStopsAtRangeError := by
  intro s start count j ⟨_, ⟨len, _⟩, _⟩ fits valid odd lo hi range above
  have block : ∀ k u, k < j → start ≤ k ∧ s.Transformed s.keyE start k u →
      ∃ v, ecbEncBlock k u = .completed v ∧ start ≤ k + 1 ∧ s.Transformed s.keyE start (k + 1) v :=
    fun k u hk ⟨le, done⟩ =>
      ⟨_, done.ecbEncBlock_eq.trans (if_neg (range k le hk).not_ge), by omega, done.next le (by omega)⟩
  have fails : ∀ u, start ≤ j ∧ s.Transformed s.keyE start j u → ecbEncBlock j u = .raised .blockRange j u :=
    fun u ⟨_, done⟩ => done.ecbEncBlock_eq.trans (if_pos above)
  obtain ⟨u, stops, -, done⟩ := forBlocks_raises block fails lo hi ⟨le_rfl, State.transformed_refl start⟩
  refine ⟨u.raiseError .blockRange j, ?_, done.entry, congrArg (·.raiseError .blockRange j) done.frame⟩
  exact (sequenceCommand_run ecbEncBlock fits valid odd).trans (by rw [stops]; rfl)

/-! ## R152: ECB_ENC is deterministic -/

/-- R150: ECB_ENC that ends with ERRCODE = 0 found every block of its run below KEY_N: at the first other block it would
have stopped. -/
theorem ecbEnc_range_of_success {s t : State} {start count : Nat} (wf : s.Wf)
    (answer : exec (.ecbEnc start count) s = .next t) (success : t.errcode = 0) :
    ∀ i, start ≤ i → i < start + count → s.bufAt i < s.keyN := by
  obtain ⟨fits, valid, odd⟩ := sequence_checks_of_success (.head _) answer success
  intro i
  induction i using Nat.strong_induction_on with
  | _ i earlier =>
    intro lo hi
    by_contra above
    have before : ∀ k, start ≤ k → k < i → s.bufAt k < s.keyN := fun k hlo hk => earlier k hk hlo (by omega)
    obtain ⟨u, stopped, -, frame⟩ :=
      ecbEncStopsAtRangeError s start count i wf fits valid odd lo hi before (not_lt.1 above)
    cases answer.symm.trans stopped
    rw [frame] at success
    exact absurd success (by decide : (5 : BitVec 4) ≠ 0)

/-- R150: the ciphertext that ECB_ENC leaves when it ends with ERRCODE = 0. -/
theorem ecbEnc_entry_of_success {s t : State} {start count : Nat} (wf : s.Wf)
    (answer : exec (.ecbEnc start count) s = .next t) (success : t.errcode = 0) {i : Nat} (lo : start ≤ i)
    (hi : i < start + count) : t.bufAt i = s.bufAt i ^ s.keyE % s.keyN := by
  obtain ⟨fits, valid, odd⟩ := sequence_checks_of_success (.head _) answer success
  obtain ⟨u, encrypted, entry, -⟩ :=
    ecbEncEncryptsRun s start count wf fits valid odd (ecbEnc_range_of_success wf answer success)
  cases answer.symm.trans encrypted
  exact (entry i).trans (if_pos ⟨lo, hi⟩)

/-- Settles O39: a ciphertext block is a function of KEY_N, KEY_E and its plaintext block alone. -/
theorem ecbEncIsDeterministic : Obligations.EcbEncIsDeterministic := by
  intro s1 s2 t1 t2 start1 count1 start2 count2 i j wf1 wf2 keyN keyE run1 ok1 run2 ok2 lo1 hi1 lo2 hi2 same
  rw [ecbEnc_entry_of_success wf1 run1 ok1 lo1 hi1, ecbEnc_entry_of_success wf2 run2 ok2 lo2 hi2, same, keyN, keyE]

/-! ## R153: the exponents of an RSA key cancel -/

/-- R153: modulo a prime `p`, an exponent that is 1 modulo a multiple of `p - 1` changes nothing. -/
theorem pow_modEq_self_of_prime {p x : Nat} (prime : p.Prime) (positive : 1 ≤ x) (cycles : p - 1 ∣ x - 1) (m : Nat) :
    m ^ x ≡ m [MOD p] := by
  have fermat := Int.ModEq.pow_eq_pow prime (y := 1) cycles positive one_pos m
  rw [pow_one] at fermat
  exact_mod_cast fermat

/-- R153: under an RSA key KEY_E and KEY_D undo each other modulo KEY_N. -/
theorem State.rsaKey.pow_modEq_self {s : State} {p q : Nat} (key : s.rsaKey p q) (m : Nat) :
    m ^ (s.keyE * s.keyD) ≡ m [MOD s.keyN] := by
  obtain ⟨hp, hq, distinct, modulus, inverse⟩ := key
  have phi_large : 1 < (p - 1) * (q - 1) := by
    have hp2 := hp.two_le
    have hq2 := hq.two_le
    exact Nat.one_lt_mul_iff.2 ⟨by omega, by omega, by omega⟩
  have positive : 1 ≤ s.keyE * s.keyD := by
    rw [Nat.mod_eq_of_lt phi_large] at inverse
    exact inverse.symm.le.trans (Nat.mod_le _ _)
  have cycles : (p - 1) * (q - 1) ∣ s.keyE * s.keyD - 1 := (Nat.modEq_iff_dvd' positive).1 inverse.symm
  rw [modulus]
  refine (Nat.modEq_and_modEq_iff_modEq_mul ((Nat.coprime_primes hp hq).2 distinct)).1 ⟨?_, ?_⟩
  · exact pow_modEq_self_of_prime hp positive ((Nat.dvd_mul_right _ _).trans cycles) m
  · exact pow_modEq_self_of_prime hq positive ((Nat.dvd_mul_left _ _).trans cycles) m

/-- R153: decryption restores a block below KEY_N. -/
theorem State.rsaKey.decrypt_encrypt {s : State} {p q : Nat} (key : s.rsaKey p q) {m : Nat} (range : m < s.keyN) :
    (m ^ s.keyE % s.keyN) ^ s.keyD % s.keyN = m := by
  rw [← Nat.pow_mod, ← pow_mul, key.pow_modEq_self m, Nat.mod_eq_of_lt range]

/-! ## R153: the ECB round trip -/

/-- R251: a state of the block's form with a nonzero modulus is not in reset. -/
theorem State.Wf.high_of_keyN_ne_zero {s : State} (wf : s.Wf) (nonzero : s.keyN ≠ 0) : s.rstN = true := by
  obtain ⟨-, -, -, -, reset⟩ := wf
  by_contra low
  obtain ⟨keyN, -⟩ := reset (Bool.eq_false_of_not_eq_true low)
  exact nonzero keyN

/-- Every command takes a state of the block's form outside reset to one. -/
theorem exec_next_wf {i : Instr} {s t : State} (wf : s.Wf) (high : s.rstN = true) (answer : exec i s = .next t) :
    t.Wf := by
  obtain ⟨u, computed, u_wf⟩ := exec_wf (wf.running high) i
  cases computed.symm.trans answer
  exact u_wf

/-- R15: buffers of one length with the same entries are the same. -/
theorem State.buf_ext {s t : State} (length : t.buf.length = s.buf.length) (same : ∀ i, t.bufAt i = s.bufAt i) :
    t.buf = s.buf :=
  List.ext_getElem length fun i ht hs => by simpa [State.bufAt, ht, hs] using same i

/-- Settles O40: with an even modulus both commands refuse; with an odd one each block is decrypted from its
ciphertext. -/
theorem ecbRoundTrip : Obligations.EcbRoundTrip := by
  intro s p q start count wf key valid fits range
  rcases Nat.mod_two_eq_zero_or_one s.keyN with even | odd
  · exact ⟨_, _, sequenceCommand_modulus ecbEncBlock fits valid even,
      sequenceCommand_modulus ecbDecBlock fits valid even, rfl⟩
  obtain ⟨t, encrypts, cipher, frame⟩ := ecbEncEncryptsRun s start count wf fits valid odd range
  have t_wf : t.Wf := exec_next_wf wf (wf.high_of_keyN_ne_zero (by omega)) encrypts
  have keyN : t.keyN = s.keyN := by rw [frame]
  have keyD : t.keyD = s.keyD := by rw [frame]
  have t_fits : start + count ≤ t.cfg.nbuf := by rw [frame]; exact fits
  have t_valid : t.sizeValid := by rw [frame]; exact valid
  obtain ⟨u, decrypts, plain, -⟩ := ecbDecDecryptsRun t start count t_wf t_fits t_valid (keyN ▸ odd)
  refine ⟨t, u, encrypts, decrypts, State.buf_ext ?_ fun i => ?_⟩
  · exact (commandFrame _ t u decrypts).1.trans (commandFrame _ s t encrypts).1
  · rw [plain, cipher, keyN, keyD]
    split_ifs with inRun
    · obtain ⟨lo, hi⟩ := inRun
      exact key.decrypt_encrypt (range i lo hi)
    · rfl

end Sys2Proof.Machine

namespace Sys2Proof.Machine

/-! ## R171, R172: one CBC chain, in either direction -/

/-- R171, R172: CBC_ENC works by KEY_E, CBC_DEC by KEY_D; the exponent names the direction, as X does for MODEXP. -/
def cbcBody : ExpSel → Nat → State → CmdEnd
  | .keyE => cbcEncBlock
  | .keyD => cbcDecBlock

/-- The CBC command of a direction. -/
def cbcCommand : ExpSel → Nat → Nat → Instr
  | .keyE => .cbcEnc
  | .keyD => .cbcDec

/-- R171, R172 on numbers: from the chaining value `p` and the block `b`, the result and the ciphertext; none where the
range check fails. -/
def cbcBlock (x : ExpSel) (e n m p b : Nat) : Option (Nat × Nat) :=
  match x with
  | .keyE => if n ≤ b ^^^ p then none else some ((b ^^^ p) ^ e % n, (b ^^^ p) ^ e % n)
  | .keyD => some (((b ^ e % n) &&& m) ^^^ p, b)

/-- What a chain leaves: its blocks, its last chaining value, and how many blocks it finished. -/
structure ChainResult where
  blocks : List Nat
  last : Nat
  finished : Nat

/-- A chain over a list of blocks from the chaining value `p`. -/
def cbcChain (x : ExpSel) (e n m : Nat) : Nat → List Nat → ChainResult
  | p, [] => ⟨[], p, 0⟩
  | p, b :: rest =>
    match cbcBlock x e n m p b with
    | none => ⟨b :: rest, p, 0⟩
    | some (y, c) =>
      let r := cbcChain x e n m (c &&& m) rest
      ⟨y :: r.blocks, r.last, r.finished + 1⟩

/-- The end of a run over `count` blocks that stand between `pre` and `post`, by its chain (R170, R171). -/
def ChainResult.toEnd (r : ChainResult) (pre post : List Nat) (count : Nat) (s : State) : CmdEnd :=
  let t := s.withOperands (pre ++ r.blocks ++ post) (s.prevAfter r.finished r.last)
  if r.finished = count then .completed t else .raised .blockRange (pre.length + r.finished) t

section
variable {x : ExpSel} {e n m : Nat}

/-- R171, R132: a mixed value not below the modulus fails the range check of CBC_ENC. -/
theorem cbcBlock_keyE_none {p b : Nat} (above : n ≤ b ^^^ p) : cbcBlock .keyE e n m p b = none := if_pos above

/-- R171: a mixed value below the modulus encrypts to a ciphertext that is the result and the next chaining value. -/
theorem cbcBlock_keyE_some {p b : Nat} (below : b ^^^ p < n) :
    cbcBlock .keyE e n m p b = some ((b ^^^ p) ^ e % n, (b ^^^ p) ^ e % n) :=
  if_neg below.not_ge

/-- R171: a chain ends at a block that fails the range check, and keeps it and the blocks after it. -/
theorem cbcChain_cons_none {p b : Nat} (fails : cbcBlock x e n m p b = none) (rest : List Nat) :
    cbcChain x e n m p (b :: rest) = ⟨b :: rest, p, 0⟩ := by
  rw [cbcChain, fails]

/-- R170: a chain goes on after a block, from the block's ciphertext masked. -/
theorem cbcChain_cons_some {p b y c : Nat} (block : cbcBlock x e n m p b = some (y, c)) (rest : List Nat) :
    cbcChain x e n m p (b :: rest) =
      ⟨y :: (cbcChain x e n m (c &&& m) rest).blocks, (cbcChain x e n m (c &&& m) rest).last,
        (cbcChain x e n m (c &&& m) rest).finished + 1⟩ := by
  rw [cbcChain, block]

/-- R171: the chain by KEY_E is that of CBC_ENC. -/
theorem cbcEncChain_eq : ∀ p l, cbcEncChain e n m p l =
    ((cbcChain .keyE e n m p l).blocks, (cbcChain .keyE e n m p l).last, (cbcChain .keyE e n m p l).finished)
  | _, [] => rfl
  | p, b :: rest => by
    by_cases above : n ≤ b ^^^ p
    · rw [cbcEncChain, if_pos above, cbcChain_cons_none (cbcBlock_keyE_none above)]
    · rw [cbcEncChain, if_neg above, cbcChain_cons_some (cbcBlock_keyE_some (not_le.1 above))]
      simp only [cbcEncChain_eq _ rest]

/-- R172: the chain by KEY_D is that of CBC_DEC. -/
theorem cbcDecChain_eq : ∀ p l,
    cbcDecChain e n m p l = ((cbcChain .keyD e n m p l).blocks, (cbcChain .keyD e n m p l).last)
  | _, [] => rfl
  | p, c :: rest => by
    rw [cbcChain_cons_some rfl, cbcDecChain, cbcDecChain_eq (c &&& m) rest]

/-- R172: the chain by KEY_D finishes every block. -/
theorem cbcChain_keyD_finished : ∀ p l, (cbcChain .keyD e n m p l).finished = l.length
  | _, [] => rfl
  | p, c :: rest => by
    rw [cbcChain_cons_some rfl, cbcChain_keyD_finished, List.length_cons]

/-- R171, R172: a chain answers one block for each block. -/
theorem cbcChain_length : ∀ p l, (cbcChain x e n m p l).blocks.length = l.length
  | _, [] => rfl
  | p, b :: rest => by
    cases block : cbcBlock x e n m p b with
    | none => rw [cbcChain_cons_none block]
    | some yc => rw [cbcChain_cons_some block, List.length_cons, List.length_cons, cbcChain_length _ rest]

/-- R170: a chain that finished no block leaves the chaining value it started from. -/
theorem cbcChain_last_of_unfinished {p : Nat} {l : List Nat} (unfinished : (cbcChain x e n m p l).finished = 0) :
    (cbcChain x e n m p l).last = p := by
  cases l with
  | nil => rfl
  | cons b rest =>
    cases block : cbcBlock x e n m p b with
    | none => rw [cbcChain_cons_none block]
    | some yc =>
      rw [cbcChain_cons_some block] at unfinished
      exact absurd unfinished (Nat.succ_ne_zero _)

/-- R170: a chain from a masked chaining value ends with a masked one. -/
theorem cbcChain_last_masked : ∀ {p : Nat} (l : List Nat), p &&& m = p →
    (cbcChain x e n m p l).last &&& m = (cbcChain x e n m p l).last
  | _, [], masked => masked
  | p, b :: rest, masked => by
    cases block : cbcBlock x e n m p b with
    | none =>
      rw [cbcChain_cons_none block]
      exact masked
    | some yc =>
      rw [cbcChain_cons_some block]
      exact cbcChain_last_masked rest (by rw [Nat.and_assoc, Nat.and_self])

/-- R174: a chain over two lists, the first of which it finishes, goes on in the second from the first one's last
chaining value. -/
theorem cbcChain_append {l₂ : List Nat} : ∀ {p : Nat} {l₁ : List Nat},
    (cbcChain x e n m p l₁).finished = l₁.length →
    (cbcChain x e n m p (l₁ ++ l₂)).blocks =
        (cbcChain x e n m p l₁).blocks ++ (cbcChain x e n m (cbcChain x e n m p l₁).last l₂).blocks ∧
      (cbcChain x e n m p (l₁ ++ l₂)).last = (cbcChain x e n m (cbcChain x e n m p l₁).last l₂).last
  | _, [], _ => ⟨rfl, rfl⟩
  | p, b :: rest, finished => by
    cases block : cbcBlock x e n m p b with
    | none =>
      rw [cbcChain_cons_none block] at finished
      exact absurd finished (Nat.succ_ne_zero _).symm
    | some yc =>
      rw [cbcChain_cons_some block] at finished
      obtain ⟨blocks, last⟩ := cbcChain_append (l₂ := l₂) (Nat.succ_injective finished)
      rw [List.cons_append, cbcChain_cons_some block, cbcChain_cons_some block]
      exact ⟨congrArg (yc.1 :: ·) blocks, last⟩

end

/-! ## R170: what a run of CBC blocks does -/

/-- The chain that a state computes over a list of blocks, by its keys, block size and chaining value (R170). -/
abbrev State.cbcOver (s : State) (x : ExpSel) (blocks : List Nat) : ChainResult :=
  cbcChain x (s.exponent x) s.keyN (mask s.bs.toNat) s.chain blocks

/-- The chain of a CBC command over its run (R170). -/
abbrev State.cbcRun (s : State) (x : ExpSel) (start count : Nat) : ChainResult :=
  s.cbcOver x (s.slice start count)

/-- R13: masking twice is masking once. -/
theorem and_mask_and_mask (v bs : Nat) : v &&& mask bs &&& mask bs = v &&& mask bs := by
  rw [Nat.and_assoc, Nat.and_self]

/-- R170: the state after a block stored its result `y` and the ciphertext `c` as the next chaining value. -/
def State.cbcStore (s : State) (i y c : Nat) : State := (s.setBuf i y).setPrev (c &&& mask s.bs.toNat)

/-- R170: the chain goes on from the masked ciphertext, under the same keys and block size. -/
theorem State.cbcStore_cbcOver (s : State) (i y c : Nat) (x : ExpSel) (blocks : List Nat) :
    (s.cbcStore i y c).cbcOver x blocks =
      cbcChain x (s.exponent x) s.keyN (mask s.bs.toNat) (c &&& mask s.bs.toNat) blocks := by
  have chain : (s.cbcStore i y c).chain = c &&& mask s.bs.toNat := and_mask_and_mask c s.bs.toNat
  have exponent : (s.cbcStore i y c).exponent x = s.exponent x := by cases x <;> rfl
  rw [State.cbcOver, chain, exponent]
  rfl

/-- R171, R132: the block of either direction where the range check fails. -/
theorem cbcBody_none {x : ExpSel} {i : Nat} {s : State}
    (fails : cbcBlock x (s.exponent x) s.keyN (mask s.bs.toNat) s.chain (s.bufAt i) = none) :
    cbcBody x i s = .raised .blockRange i s := by
  cases x with
  | keyE =>
    have above : s.keyN ≤ s.bufAt i ^^^ s.chain := by simpa [cbcBlock] using fails
    exact if_pos ((outOfRange_iff _ _).2 above)
  | keyD => simp [cbcBlock] at fails

/-- R171, R172: the block of either direction otherwise. -/
theorem cbcBody_some {x : ExpSel} {i y c : Nat} {s : State}
    (block : cbcBlock x (s.exponent x) s.keyN (mask s.bs.toNat) s.chain (s.bufAt i) = some (y, c)) :
    cbcBody x i s = .completed (s.cbcStore i y c) := by
  cases x with
  | keyE =>
    simp only [cbcBlock, Option.ite_none_left_eq_some, Option.some.injEq, Prod.mk.injEq] at block
    obtain ⟨inRange, rfl, rfl⟩ := block
    rw [← outOfRange_iff] at inRange
    simp only [cbcBody, cbcEncBlock, if_neg inRange, transform_eq]
    rfl
  | keyD =>
    simp only [cbcBlock, Option.some.injEq, Prod.mk.injEq] at block
    obtain ⟨rfl, rfl⟩ := block
    simp only [cbcBody, cbcDecBlock, transform_eq]
    rfl

/-- R170: a run that finishes no block leaves the state, PREV included. -/
theorem ChainResult.toEnd_unfinished {blocks pre post : List Nat} {s : State} (buf : s.buf = pre ++ blocks ++ post)
    (p count : Nat) : (ChainResult.mk blocks p 0).toEnd pre post count s =
      if 0 = count then .completed s else .raised .blockRange pre.length s := by
  have same : s.withOperands (pre ++ blocks ++ post) (s.prevAfter 0 p) = s := by rw [← buf]; rfl
  simp only [ChainResult.toEnd, same, Nat.add_zero]

/-- R170: a run that finishes its first block ends as the rest does after that block. -/
theorem ChainResult.toEnd_cons {r : ChainResult} {s : State} {pre : List Nat} {y c : Nat}
    (unfinished : r.finished = 0 → r.last = c &&& mask s.bs.toNat) (post : List Nat) (count : Nat) :
    (ChainResult.mk (y :: r.blocks) r.last (r.finished + 1)).toEnd pre post (count + 1) s =
      r.toEnd (pre ++ [y]) post count (s.cbcStore pre.length y c) := by
  have prev : (s.cbcStore pre.length y c).prevAfter r.finished r.last = r.last :=
    ite_eq_right_iff.2 fun none => (unfinished none).symm
  have same : (s.cbcStore pre.length y c).withOperands (pre ++ [y] ++ r.blocks ++ post) r.last =
      s.withOperands (pre ++ y :: r.blocks ++ post) (s.prevAfter (r.finished + 1) r.last) := by
    rw [List.append_assoc pre]
    rfl
  have index : (pre ++ [y]).length + r.finished = pre.length + (r.finished + 1) := by
    rw [List.length_append, List.length_singleton, Nat.add_assoc, Nat.add_comm 1]
  simp only [ChainResult.toEnd, prev, same, index, Nat.succ_inj]

/-- R170: a run of CBC blocks is the state's chain over them. -/
theorem forBlocks_cbcBody (x : ExpSel) (post : List Nat) : ∀ (blocks pre : List Nat) (s : State),
    s.buf = pre ++ blocks ++ post →
    forBlocks (cbcBody x) blocks.length pre.length s = (s.cbcOver x blocks).toEnd pre post blocks.length s
  | [], _, _, buf => (ChainResult.toEnd_unfinished buf _ 0).symm
  | b :: rest, pre, s, buf => by
    have read : s.bufAt pre.length = b := by simp [State.bufAt, buf]
    cases block : cbcBlock x (s.exponent x) s.keyN (mask s.bs.toNat) s.chain b with
    | none =>
      have stops := cbcBody_none (i := pre.length) (read ▸ block)
      rw [State.cbcOver, cbcChain_cons_none block, ChainResult.toEnd_unfinished buf, List.length_cons, forBlocks, stops]
      rfl
    | some yc =>
      obtain ⟨y, c⟩ := yc
      have runs := cbcBody_some (i := pre.length) (read ▸ block)
      have stored : (s.cbcStore pre.length y c).buf = pre ++ [y] ++ rest ++ post := by
        simp [State.cbcStore, buf]
      have go := forBlocks_cbcBody x post rest (pre ++ [y]) (s.cbcStore pre.length y c) stored
      rw [State.cbcOver, cbcChain_cons_some block, List.length_cons,
        ChainResult.toEnd_cons cbcChain_last_of_unfinished, forBlocks, runs]
      rwa [State.cbcStore_cbcOver, List.length_append, List.length_singleton] at go

/-! ## R171, R172: the CBC commands -/

/-- The slice of a run stands between the entries before it and those after it. -/
theorem State.buf_eq_slice (s : State) (start count : Nat) :
    s.buf = s.buf.take start ++ s.slice start count ++ s.buf.drop (start + count) := by
  rw [List.append_assoc, ← List.drop_drop, List.take_append_drop, List.take_append_drop]

/-- A run that fits has a slice of its length. -/
theorem State.slice_length {s : State} {start count : Nat} (fits : start + count ≤ s.buf.length) :
    (s.slice start count).length = count := by
  rw [List.length_take, List.length_drop]
  omega

/-- The slice of a run whose blocks were replaced is the new blocks. -/
theorem State.slice_replace {s t : State} {start count : Nat} {blocks : List Nat} (fits : start + count ≤ s.buf.length)
    (length : blocks.length = count) (replaced : t.buf = s.buf.take start ++ blocks ++ s.buf.drop (start + count)) :
    t.slice start count = blocks := by
  have before : (s.buf.take start).length = start := List.length_take_of_le (by omega)
  rw [State.slice, replaced, List.append_assoc, List.drop_left' before, List.take_left' length]

/-- An entry of a run is a block of its slice. -/
theorem State.bufAt_eq_slice {s : State} {start count i : Nat} (lo : start ≤ i) (hi : i < start + count) :
    s.bufAt i = (s.slice start count).getD (i - start) 0 := by
  have inRun : i - start < count := by omega
  simp [State.bufAt, State.slice, inRun, Nat.add_sub_cancel' lo]

/-- The blocks of a run that fits are its entries. -/
theorem State.mem_slice_iff {s : State} {start count : Nat} (fits : start + count ≤ s.buf.length) {b : Nat} :
    b ∈ s.slice start count ↔ ∃ i, start ≤ i ∧ i < start + count ∧ s.bufAt i = b := by
  have length := State.slice_length fits
  rw [List.mem_iff_getElem]
  constructor
  · rintro ⟨j, hj, rfl⟩
    refine ⟨start + j, by omega, by omega, ?_⟩
    rw [State.bufAt_eq_slice (start := start) (count := count) (by omega) (by omega), Nat.add_sub_cancel_left,
      List.getD_eq_getElem _ _ hj]
  · rintro ⟨i, lo, hi, rfl⟩
    exact ⟨i - start, by omega, by rw [State.bufAt_eq_slice lo hi, List.getD_eq_getElem]⟩

/-- R225: a sequence command over the run passes its checks, on a buffer of NBUF entries. -/
structure State.RunReady (s : State) (start count : Nat) : Prop where
  length : s.buf.length = s.cfg.nbuf
  fits : start + count ≤ s.cfg.nbuf
  valid : s.sizeValid
  odd : s.keyN % 2 = 1

section
variable {s t : State} {x : ExpSel} {start count : Nat}

/-- R98: the run lies within BUF. -/
theorem State.RunReady.fits_buf (ready : s.RunReady start count) : start + count ≤ s.buf.length :=
  ready.fits.trans_eq ready.length.symm

/-- The entries before the run are `start` in number. -/
theorem State.RunReady.take_length (ready : s.RunReady start count) : (s.buf.take start).length = start :=
  List.length_take_of_le ((Nat.le_add_right start count).trans ready.fits_buf)

/-- R171, R172: the chain of a run that fits answers one block for each block of the run. -/
theorem State.RunReady.cbcRun_length (ready : s.RunReady start count) :
    (s.cbcRun x start count).blocks.length = count :=
  (cbcChain_length _ _).trans (State.slice_length ready.fits_buf)

/-- R172: CBC_DEC finishes its run. -/
theorem State.RunReady.cbcRun_keyD_finished (ready : s.RunReady start count) :
    (s.cbcRun .keyD start count).finished = count :=
  (cbcChain_keyD_finished _ _).trans (State.slice_length ready.fits_buf)

/-- R42: a command keeps the configuration, the keys and the block size. -/
theorem exec_keeps_setup {i : Instr} (answer : exec i s = .next t) :
    t.cfg = s.cfg ∧ t.keyN = s.keyN ∧ t.keyE = s.keyE ∧ t.keyD = s.keyD ∧ t.bs = s.bs := by
  obtain ⟨-, frame⟩ := commandFrame i s t answer
  rw [frame]
  exact ⟨rfl, rfl, rfl, rfl, rfl⟩

/-- R225: the checks read nothing that a command or a write to PREV changes. -/
theorem State.RunReady.after {i : Instr} (ready : s.RunReady start count) (answer : exec i s = .next t) (p : Nat) :
    State.RunReady { t with prev := p } start count := by
  obtain ⟨length, fits, valid, odd⟩ := ready
  obtain ⟨cfg, keyN, -, -, bs⟩ := exec_keeps_setup answer
  obtain ⟨kept, -⟩ := commandFrame i s t answer
  exact ⟨kept.trans (length.trans (by rw [cfg])), cfg ▸ fits, by rwa [State.sizeValid, keyN, bs], keyN ▸ odd⟩

/-- R170: a CBC command whose checks pass is the chain of its run. -/
theorem exec_cbc (x : ExpSel) (ready : s.RunReady start count) :
    exec (cbcCommand x start count) s =
      .next ((s.cbcRun x start count).toEnd (s.buf.take start) (s.buf.drop (start + count)) count s).finish := by
  have command : exec (cbcCommand x start count) s = sequenceCommand (cbcBody x) start count s := by cases x <;> rfl
  have run := forBlocks_cbcBody x _ _ _ s (s.buf_eq_slice start count)
  rw [State.slice_length ready.fits_buf, ready.take_length] at run
  rw [command, sequenceCommand_run (cbcBody x) ready.fits ready.valid ready.odd, run]

/-- R223: the end of a CBC command that finishes its whole run. -/
theorem exec_cbc_finished (ready : s.RunReady start count) (finished : (s.cbcRun x start count).finished = count) :
    exec (cbcCommand x start count) s = .next { s.okEnd with
      buf := s.buf.take start ++ (s.cbcRun x start count).blocks ++ s.buf.drop (start + count)
      prev := s.prevAfter count (s.cbcRun x start count).last } := by
  rw [exec_cbc x ready, ChainResult.toEnd, if_pos finished, finished]
  rfl

/-- R224, R226: the end of a CBC command that stops at a block of its run. -/
theorem exec_cbc_unfinished (ready : s.RunReady start count)
    (unfinished : (s.cbcRun x start count).finished ≠ count) :
    exec (cbcCommand x start count) s = .next { s.errEnd 5 (start + (s.cbcRun x start count).finished) with
      buf := s.buf.take start ++ (s.cbcRun x start count).blocks ++ s.buf.drop (start + count)
      prev := s.prevAfter (s.cbcRun x start count).finished (s.cbcRun x start count).last } := by
  rw [exec_cbc x ready, ChainResult.toEnd, if_neg unfinished, ready.take_length]
  rfl

/-- What a CBC command that finished its run left in the run and in PREV (R170). -/
structure State.ChainDone (s : State) (x : ExpSel) (start count : Nat) (t : State) : Prop where
  success : t.errcode = 0
  finished : (s.cbcRun x start count).finished = count
  blocks : t.slice start count = (s.cbcRun x start count).blocks
  prev : t.prev = s.prevAfter count (s.cbcRun x start count).last

/-- R223: a CBC command whose chain finishes its run ends with ERRCODE = 0. -/
theorem State.RunReady.chainDone (ready : s.RunReady start count)
    (finished : (s.cbcRun x start count).finished = count) :
    ∃ t, exec (cbcCommand x start count) s = .next t ∧ s.ChainDone x start count t :=
  ⟨_, exec_cbc_finished ready finished, rfl, finished, State.slice_replace ready.fits_buf ready.cbcRun_length rfl, rfl⟩

/-- R225: both CBC commands are sequence commands. -/
theorem cbcCommand_mem (x : ExpSel) (start count : Nat) :
    cbcCommand x start count ∈
      [Instr.ecbEnc start count, .ecbDec start count, .cbcEnc start count, .cbcDec start count] := by
  cases x <;> simp [cbcCommand]

/-- R225: a CBC command that ends with ERRCODE = 0 passed its three checks. -/
theorem cbc_ready_of_success (length : s.buf.length = s.cfg.nbuf)
    (answer : exec (cbcCommand x start count) s = .next t) (success : t.errcode = 0) : s.RunReady start count := by
  obtain ⟨fits, valid, odd⟩ := sequence_checks_of_success (cbcCommand_mem x start count) answer success
  exact ⟨length, fits, valid, odd⟩

/-- R171, R172: a CBC command that ends with ERRCODE = 0 finished its run. -/
theorem State.RunReady.chainDone_of_success (ready : s.RunReady start count)
    (answer : exec (cbcCommand x start count) s = .next t) (success : t.errcode = 0) : s.ChainDone x start count t := by
  by_cases finished : (s.cbcRun x start count).finished = count
  · obtain ⟨u, ends, done⟩ := ready.chainDone finished
    cases answer.symm.trans ends
    exact done
  · cases answer.symm.trans (exec_cbc_unfinished ready finished)
    exact absurd success (by decide : (5 : BitVec 4) ≠ 0)

end

/-- R171: the chain of CBC_ENC over its run. -/
theorem State.cbcEncChain_slice (s : State) (start count : Nat) :
    cbcEncChain s.keyE s.keyN (mask s.bs.toNat) (s.prev &&& mask s.bs.toNat) (s.slice start count) =
      ((s.cbcRun .keyE start count).blocks, (s.cbcRun .keyE start count).last, (s.cbcRun .keyE start count).finished) :=
  cbcEncChain_eq _ _

/-- R172: the chain of CBC_DEC over its run. -/
theorem State.cbcDecChain_slice (s : State) (start count : Nat) :
    cbcDecChain s.keyD s.keyN (mask s.bs.toNat) (s.prev &&& mask s.bs.toNat) (s.slice start count) =
      ((s.cbcRun .keyD start count).blocks, (s.cbcRun .keyD start count).last) :=
  cbcDecChain_eq _ _

/-- Settles O35: the chain finishes the whole run. -/
theorem cbcEncEncryptsRun : Obligations.CbcEncEncryptsRun := by
  intro s start count ⟨_, ⟨length, _⟩, _⟩ fits valid odd finished
  rw [s.cbcEncChain_slice] at finished ⊢
  exact exec_cbc_finished (x := .keyE) ⟨length, fits, valid, odd⟩ finished

/-- Settles O36: the chain stops after `k` blocks, and block `start + k` raises BLOCKRANGE. -/
theorem cbcEncStopsAtRangeError : Obligations.CbcEncStopsAtRangeError := by
  intro s start count k ⟨_, ⟨length, _⟩, _⟩ fits valid odd finished stops
  rw [s.cbcEncChain_slice] at finished ⊢
  subst finished
  exact exec_cbc_unfinished (x := .keyE) ⟨length, fits, valid, odd⟩ stops.ne

/-- Settles O38: CBC_DEC has no range check, so its chain finishes the whole run. -/
theorem cbcDecDecryptsRun : Obligations.CbcDecDecryptsRun := by
  intro s start count ⟨_, ⟨length, _⟩, _⟩ fits valid odd
  have ready : s.RunReady start count := ⟨length, fits, valid, odd⟩
  rw [s.cbcDecChain_slice]
  exact exec_cbc_finished ready ready.cbcRun_keyD_finished

/-! ## R171: plaintext within the mask -/

/-- R13: the mask is the largest value of the block size. -/
theorem le_mask_iff {v bs : Nat} : v ≤ mask bs ↔ v < 2 ^ (8 * bs) :=
  Nat.le_sub_one_iff_lt (Nat.two_pow_pos _)

/-- R13: masking a value of the block size changes nothing. -/
theorem and_mask_of_lt {v bs : Nat} (small : v < 2 ^ (8 * bs)) : v &&& mask bs = v := by
  rw [and_mask, Nat.mod_eq_of_lt small]

/-- R13: a masked value has the block size. -/
theorem and_mask_lt (v bs : Nat) : v &&& mask bs < 2 ^ (8 * bs) := le_mask_iff.1 Nat.and_le_right

/-- R171: CBC_ENC finishes a run of blocks of the block size: what it mixes has the block size too. -/
theorem cbcChain_keyE_finished {e n bs : Nat} (room : 2 ^ (8 * bs) ≤ n) : ∀ (l : List Nat) {p : Nat},
    p < 2 ^ (8 * bs) → (∀ b ∈ l, b ≤ mask bs) → (cbcChain .keyE e n (mask bs) p l).finished = l.length
  | [], _, _, _ => rfl
  | b :: rest, p, hp, small => by
    obtain ⟨hb, rest_small⟩ := List.forall_mem_cons.1 small
    have mixed : b ^^^ p < 2 ^ (8 * bs) := Nat.xor_lt_two_pow (le_mask_iff.1 hb) hp
    rw [cbcChain_cons_some (cbcBlock_keyE_some (mixed.trans_le room)), List.length_cons,
      cbcChain_keyE_finished room rest (and_mask_lt _ _) rest_small]

/-- The blocks of a run are at most the mask when its entries are. -/
theorem State.RunReady.slice_le_mask {s : State} {start count : Nat} (ready : s.RunReady start count)
    (small : ∀ i, start ≤ i → i < start + count → s.bufAt i ≤ mask s.bs.toNat) :
    ∀ b ∈ s.slice start count, b ≤ mask s.bs.toNat := by
  intro b mem
  obtain ⟨i, lo, hi, rfl⟩ := (State.mem_slice_iff ready.fits_buf).1 mem
  exact small i lo hi

/-- R171: CBC_ENC finishes its run when every block of it is at most the mask. -/
theorem State.RunReady.cbcRun_keyE_finished {s : State} {start count : Nat} (ready : s.RunReady start count)
    (small : ∀ b ∈ s.slice start count, b ≤ mask s.bs.toNat) : (s.cbcRun .keyE start count).finished = count :=
  (cbcChain_keyE_finished ready.valid.two_pow_le_keyN _ (and_mask_lt _ _) small).trans
    (State.slice_length ready.fits_buf)

/-- Settles O37: a check that fails raises another error, and past the checks the run is finished. -/
theorem cbcEncInRangePlaintext : Obligations.CbcEncInRangePlaintext := by
  intro s t start count ⟨_, ⟨length, _⟩, _⟩ small answer
  rcases sequenceCommand_cases cbcEncBlock start count s with
    ⟨-, refused⟩ | ⟨-, -, refused⟩ | ⟨-, -, -, refused⟩ | ⟨run, size, modulus, -⟩
  · cases answer.symm.trans refused
    exact (by decide : ErrCode.index.code ≠ 5)
  · cases answer.symm.trans refused
    exact (by decide : ErrCode.blockSize.code ≠ 5)
  · cases answer.symm.trans refused
    exact (by decide : ErrCode.modulus.code ≠ 5)
  · have ready : s.RunReady start count :=
      ⟨length, (s.runOK_iff start count).1 run, s.sizeOK_iff.1 size, of_decide_eq_true modulus⟩
    obtain ⟨u, ends, done⟩ := ready.chainDone (ready.cbcRun_keyE_finished (ready.slice_le_mask small))
    cases answer.symm.trans ends
    rw [done.success]
    decide

/-! ## R173: the CBC round trip -/

/-- R173: CBC_DEC undoes a chain of CBC_ENC over blocks of the block size, and ends with its last chaining value. -/
theorem cbcChain_decrypt_encrypt {e d n bs : Nat} (room : 2 ^ (8 * bs) ≤ n) (undo : ∀ v < n, (v ^ e % n) ^ d % n = v) :
    ∀ (l : List Nat) {p : Nat}, p < 2 ^ (8 * bs) → (∀ b ∈ l, b ≤ mask bs) →
      (cbcChain .keyD d n (mask bs) p (cbcChain .keyE e n (mask bs) p l).blocks).blocks = l ∧
        (cbcChain .keyD d n (mask bs) p (cbcChain .keyE e n (mask bs) p l).blocks).last =
          (cbcChain .keyE e n (mask bs) p l).last
  | [], _, _, _ => ⟨rfl, rfl⟩
  | b :: rest, p, hp, small => by
    obtain ⟨hb, rest_small⟩ := List.forall_mem_cons.1 small
    have mixed : b ^^^ p < 2 ^ (8 * bs) := Nat.xor_lt_two_pow (le_mask_iff.1 hb) hp
    have inRange := mixed.trans_le room
    have plain : ((((b ^^^ p) ^ e % n) ^ d % n) &&& mask bs) ^^^ p = b := by
      rw [undo _ inRange, and_mask_of_lt mixed, Nat.xor_xor_cancel_right]
    obtain ⟨blocks, last⟩ := cbcChain_decrypt_encrypt room undo rest (and_mask_lt ((b ^^^ p) ^ e % n) bs) rest_small
    rw [cbcChain_cons_some (cbcBlock_keyE_some inRange), cbcChain_cons_some rfl, plain, blocks, last]
    exact ⟨rfl, rfl⟩

/-- R172: CBC_DEC leaves blocks of the block size. -/
theorem cbcChain_keyD_lt {d n bs : Nat} : ∀ (l : List Nat) {p : Nat}, p < 2 ^ (8 * bs) →
    ∀ b ∈ (cbcChain .keyD d n (mask bs) p l).blocks, b < 2 ^ (8 * bs)
  | [], _, _, _, mem => absurd mem List.not_mem_nil
  | c :: rest, p, hp, b, mem => by
    rw [cbcChain_cons_some rfl] at mem
    rcases List.mem_cons.1 mem with rfl | mem
    · exact Nat.xor_lt_two_pow (and_mask_lt _ _) hp
    · exact cbcChain_keyD_lt rest (and_mask_lt _ _) b mem

/-- R172: every entry that CBC_DEC writes has the block size. -/
theorem cbcDec_entry_lt {s t : State} {start count i : Nat} (ready : s.RunReady start count)
    (answer : exec (.cbcDec start count) s = .next t) (lo : start ≤ i) (hi : i < start + count) :
    t.bufAt i < 2 ^ (8 * s.bs.toNat) := by
  obtain ⟨u, ends, done⟩ := ready.chainDone ready.cbcRun_keyD_finished
  cases answer.symm.trans ends
  have t_fits : start + count ≤ t.buf.length := (ready.after answer 0).fits_buf
  have written : t.bufAt i ∈ t.slice start count := (State.mem_slice_iff t_fits).2 ⟨i, lo, hi, rfl⟩
  exact cbcChain_keyD_lt _ (and_mask_lt _ _) _ (done.blocks ▸ written)

/-- R173: blocks of the block size, encrypted and decrypted from the same PREV under an RSA key. -/
theorem State.RunReady.cbc_round_trip {s : State} {p q start count : Nat} (ready : s.RunReady start count)
    (key : s.rsaKey p q) (small : ∀ i, start ≤ i → i < start + count → s.bufAt i ≤ mask s.bs.toNat) :
    ∃ t u, exec (.cbcEnc start count) s = .next t ∧ exec (.cbcDec start count) { t with prev := s.prev } = .next u ∧
      u.buf = s.buf ∧ u.prev = t.prev := by
  have blocks_small := ready.slice_le_mask small
  obtain ⟨t, encrypts, encrypted⟩ := ready.chainDone (ready.cbcRun_keyE_finished blocks_small)
  have again := ready.after encrypts s.prev
  obtain ⟨u, decrypts, decrypted⟩ := again.chainDone again.cbcRun_keyD_finished
  obtain ⟨-, keyN, -, keyD, bs⟩ := exec_keeps_setup encrypts
  have run : State.cbcRun { t with prev := s.prev } .keyD start count =
      cbcChain .keyD s.keyD s.keyN (mask s.bs.toNat) s.chain (s.cbcRun .keyE start count).blocks := by
    change cbcChain .keyD t.keyD t.keyN (mask t.bs.toNat) (s.prev &&& mask t.bs.toNat) (t.slice start count) = _
    rw [encrypted.blocks, keyN, keyD, bs]
    rfl
  obtain ⟨restored, last⟩ := cbcChain_decrypt_encrypt ready.valid.two_pow_le_keyN
    (fun v range => key.decrypt_encrypt range) _ (and_mask_lt s.prev _) blocks_small
  refine ⟨t, u, encrypts, decrypts, State.buf_ext ?_ fun i => ?_, ?_⟩
  · exact (commandFrame _ _ u decrypts).1.trans (commandFrame _ s t encrypts).1
  · by_cases inRun : start ≤ i ∧ i < start + count
    · obtain ⟨lo, hi⟩ := inRun
      have same : u.slice start count = s.slice start count := decrypted.blocks.trans (run ▸ restored)
      rw [State.bufAt_eq_slice lo hi, same, ← State.bufAt_eq_slice lo hi]
    · exact (bufferFrame _ _ u i decrypts inRun).trans (bufferFrame _ s t i encrypts inRun)
  · rw [decrypted.prev, encrypted.prev, run]
    exact congrArg (s.prevAfter count) last

/-- Settles O41: with an even modulus both commands refuse; with an odd one CBC_DEC undoes the chain of CBC_ENC. A block
above the mask is not restored, since CBC_DEC writes blocks of the block size. -/
theorem cbcRoundTrip : Obligations.CbcRoundTrip := by
  constructor
  · intro s p q start count ⟨_, ⟨length, _⟩, _⟩ key valid fits small
    rcases Nat.mod_two_eq_zero_or_one s.keyN with even | odd
    · exact ⟨_, _, sequenceCommand_modulus cbcEncBlock fits valid even,
        sequenceCommand_modulus cbcDecBlock fits valid even, rfl, rfl⟩
    · exact State.RunReady.cbc_round_trip ⟨length, fits, valid, odd⟩ key small
  · intro s t u start count i ⟨_, ⟨length, _⟩, _⟩ lo hi above encrypts success decrypts
    have ready := cbc_ready_of_success (x := .keyE) length encrypts success
    have written := cbcDec_entry_lt (ready.after encrypts s.prev) decrypts lo hi
    obtain ⟨-, -, -, -, bs⟩ := exec_keeps_setup encrypts
    have within : u.bufAt i ≤ mask s.bs.toNat := le_mask_iff.2 (bs ▸ written)
    exact (within.trans_lt above).ne

/-! ## R174: two CBC commands compute one chain -/

/-- R170: PREV after a finished run, masked, is the last chaining value of its chain, also for an empty run. -/
theorem State.prevAfter_masked {s : State} {x : ExpSel} {start count : Nat}
    (finished : (s.cbcRun x start count).finished = count) :
    s.prevAfter count (s.cbcRun x start count).last &&& mask s.bs.toNat = (s.cbcRun x start count).last := by
  by_cases empty : count = 0
  · rw [State.prevAfter, if_pos empty]
    exact (cbcChain_last_of_unfinished (finished.trans empty)).symm
  · rw [State.prevAfter, if_neg empty]
    exact cbcChain_last_masked _ (and_mask_and_mask _ _)

/-- R174: two CBC commands of one direction, the second of which starts with the exponent, modulus, block size and PREV
that the first left, compute one chain. -/
theorem State.ChainDone.append {x : ExpSel} {s t t' u : State} {a k b l : Nat} (fits : a + k ≤ s.buf.length)
    (exponent : t'.exponent x = s.exponent x) (keyN : t'.keyN = s.keyN) (bs : t'.bs = s.bs) (prev : t'.prev = t.prev)
    (first : s.ChainDone x a k t) (second : t'.ChainDone x b l u) :
    t.slice a k ++ u.slice b l = (s.cbcOver x (s.slice a k ++ t'.slice b l)).blocks ∧
      u.prev = s.prevAfter (k + l) (s.cbcOver x (s.slice a k ++ t'.slice b l)).last := by
  have handed : t'.chain = (s.cbcRun x a k).last := by
    rw [State.chain, State.blockSize, bs, prev, first.prev]
    exact State.prevAfter_masked first.finished
  have run : t'.cbcRun x b l =
      cbcChain x (s.exponent x) s.keyN (mask s.bs.toNat) (s.cbcRun x a k).last (t'.slice b l) := by
    rw [State.cbcRun, State.cbcOver, exponent, keyN, bs, handed]
  obtain ⟨-, finished, written, left⟩ := second
  rw [run] at finished written left
  obtain ⟨blocks, last⟩ := cbcChain_append (l₂ := t'.slice b l) (first.finished.trans (State.slice_length fits).symm)
  refine ⟨by rw [blocks, first.blocks, written], ?_⟩
  rw [last, left]
  by_cases empty : l = 0
  · rw [State.prevAfter, if_pos empty, prev, first.prev, cbcChain_last_of_unfinished (finished.trans empty), empty,
      Nat.add_zero]
  · rw [State.prevAfter, State.prevAfter, if_neg empty, if_neg (by omega)]

/-- R174: as `State.ChainDone.append`, for two commands that end with ERRCODE = 0. -/
theorem cbc_chain_of_success {x : ExpSel} {s t t' u : State} {a k b l : Nat} (length : s.buf.length = s.cfg.nbuf)
    (length' : t'.buf.length = t'.cfg.nbuf) (exponent : t'.exponent x = t.exponent x) (keyN : t'.keyN = t.keyN)
    (bs : t'.bs = t.bs) (prev : t'.prev = t.prev) (run₁ : exec (cbcCommand x a k) s = .next t) (ok₁ : t.errcode = 0)
    (run₂ : exec (cbcCommand x b l) t' = .next u) (ok₂ : u.errcode = 0) :
    t.slice a k ++ u.slice b l = (s.cbcOver x (s.slice a k ++ t'.slice b l)).blocks ∧
      u.prev = s.prevAfter (k + l) (s.cbcOver x (s.slice a k ++ t'.slice b l)).last := by
  have ready₁ := cbc_ready_of_success length run₁ ok₁
  have ready₂ := cbc_ready_of_success length' run₂ ok₂
  obtain ⟨-, kept_keyN, kept_keyE, kept_keyD, kept_bs⟩ := exec_keeps_setup run₁
  have kept_exponent : t.exponent x = s.exponent x := by cases x <;> assumption
  exact State.ChainDone.append ready₁.fits_buf (exponent.trans kept_exponent) (keyN.trans kept_keyN)
    (bs.trans kept_bs) prev (ready₁.chainDone_of_success run₁ ok₁) (ready₂.chainDone_of_success run₂ ok₂)

/-- Settles O42: `cbc_chain_of_success` in each direction. -/
theorem chainAcrossCommands : Obligations.ChainAcrossCommands := by
  intro s t t' u a k b l ⟨_, ⟨length, _⟩, _⟩ ⟨_, ⟨length', _⟩, _⟩ _ keyN keyE keyD bs prev
  constructor
  · intro run₁ ok₁ run₂ ok₂
    rw [cbcEncChain_eq]
    exact cbc_chain_of_success (x := .keyE) length length' keyE keyN bs prev run₁ ok₁ run₂ ok₂
  · intro run₁ ok₁ run₂ ok₂
    rw [cbcDecChain_eq]
    exact cbc_chain_of_success (x := .keyD) length length' keyD keyN bs prev run₁ ok₁ run₂ ok₂

/-! ## R175: different chaining values -/

/-- A run of at least one block begins with the entry at its start. -/
theorem State.slice_succ {s : State} {start count : Nat} (inside : start < s.buf.length) :
    s.slice start (count + 1) = s.bufAt start :: s.slice (start + 1) count := by
  rw [State.slice, List.drop_eq_getElem_cons inside, List.take_succ_cons]
  simp [State.bufAt, inside]

/-- R171: the first block of a CBC_ENC that ends with ERRCODE = 0: its mixed value and its ciphertext. -/
theorem cbcEnc_first_of_success {s t : State} {start count : Nat} (length : s.buf.length = s.cfg.nbuf)
    (positive : 1 ≤ count) (answer : exec (.cbcEnc start count) s = .next t) (success : t.errcode = 0) :
    s.bufAt start ^^^ s.chain < s.keyN ∧ t.bufAt start = (s.bufAt start ^^^ s.chain) ^ s.keyE % s.keyN := by
  obtain ⟨k, rfl⟩ : ∃ k, count = k + 1 := ⟨count - 1, by omega⟩
  have ready := cbc_ready_of_success (x := .keyE) length answer success
  have inside := ready.fits_buf
  obtain ⟨kept, -⟩ := commandFrame _ s t answer
  obtain ⟨-, finished, blocks, -⟩ := ready.chainDone_of_success (x := .keyE) answer success
  have run : s.cbcRun .keyE start (k + 1) = s.cbcOver .keyE (s.bufAt start :: s.slice (start + 1) k) :=
    congrArg (s.cbcOver .keyE) (State.slice_succ (by omega))
  rw [run, State.cbcOver] at finished blocks
  rw [State.slice_succ (by omega)] at blocks
  rcases Nat.lt_or_ge (s.bufAt start ^^^ s.chain) s.keyN with below | above
  · rw [cbcChain_cons_some (cbcBlock_keyE_some below)] at blocks
    exact ⟨below, (List.cons.inj blocks).1⟩
  · rw [cbcChain_cons_none (cbcBlock_keyE_none above)] at finished
    exact absurd finished (Nat.succ_ne_zero _).symm

/-- R153: under an RSA key, values below KEY_N with one ciphertext are equal. -/
theorem State.rsaKey.encrypt_inj {s : State} {p q v w : Nat} (key : s.rsaKey p q) (hv : v < s.keyN) (hw : w < s.keyN)
    (same : v ^ s.keyE % s.keyN = w ^ s.keyE % s.keyN) : v = w := by
  rw [← key.decrypt_encrypt hv, same, key.decrypt_encrypt hw]

/-- Settles O43: equal first ciphertext blocks come from equal mixed values, so from equal chaining values. -/
theorem differentChainsDiffer : Obligations.DifferentChainsDiffer := by
  intro s t u p q start count p' ⟨_, ⟨length, _⟩, _⟩ key positive _ differ run₁ ok₁ run₂ ok₂ same
  obtain ⟨range₁, cipher₁⟩ := cbcEnc_first_of_success length positive run₁ ok₁
  obtain ⟨range₂, cipher₂⟩ := cbcEnc_first_of_success (s := { s with prev := p' }) length positive run₂ ok₂
  have mixed := key.encrypt_inj range₁ range₂ (cipher₁.symm.trans (same.trans cipher₂))
  exact differ (Nat.xor_right_injective mixed)

end Sys2Proof.Machine

namespace Sys2Proof.Machine

/-! ## R190: key generation -/

/-- R190: a redrawn prime is one of the draws, and another prime than `p`. -/
theorem redraw_eq_some {p q : Nat} : ∀ {qs : List Nat}, redraw p qs = some q → q ∈ qs ∧ q ≠ p
  | [], h => by cases h
  | d :: rest, h => by
    unfold redraw at h
    split_ifs at h with same
    · exact (redraw_eq_some h).imp_left (List.mem_cons_of_mem d)
    · obtain rfl := Option.some.inj h
      exact ⟨List.mem_cons_self, same⟩

/-- R190: `modularInverse` inverts what is coprime to the modulus. -/
theorem mul_modularInverse {a m : Nat} (positive : 0 < m) (coprime : a.Coprime m) :
    a * modularInverse a m ≡ 1 [MOD m] := by
  have reduced : (modularInverse a m : Int) = Nat.gcdA a m % m :=
    Int.toNat_of_nonneg (Int.emod_nonneg _ (by omega))
  have bezout : (a : Int) * Nat.gcdA a m ≡ 1 [ZMOD m] := by
    simpa [coprime.gcd_eq_one] using Int.gcd_a_modEq a m
  rw [← Int.natCast_modEq_iff]
  push_cast
  rw [reduced]
  exact ((Int.mod_modEq _ _).mul_left _).trans bezout

/-- R190: what a successful key generation answers. -/
theorem keygen_eq_ok {p : Nat} {qs : List Nat} {k : KeyPair} (h : keygen p qs = .ok k) :
    ∃ q, redraw p qs = some q ∧ ¬65537 ∣ (p - 1) * (q - 1) ∧
      k = ⟨p * q, 65537, modularInverse 65537 ((p - 1) * (q - 1))⟩ := by
  unfold keygen at h
  split at h
  · cases h
  · rename_i q drawn
    dsimp only at h
    split_ifs at h with divides
    exact ⟨q, drawn, mt Nat.mod_eq_zero_of_dvd divides, (Except.ok.inj h).symm⟩

/-- Settles O60: 65537 is a prime that does not divide (p - 1)(q - 1), so it is invertible modulo it. -/
theorem keygenGivesRsaKey : Obligations.KeygenGivesRsaKey := by
  intro len p qs k ⟨primeP, _⟩ draws success
  obtain ⟨q, drawn, notDvd, rfl⟩ := keygen_eq_ok success
  obtain ⟨mem, ne⟩ := redraw_eq_some drawn
  obtain ⟨primeQ, _⟩ := draws q mem
  have positive : 0 < (p - 1) * (q - 1) :=
    Nat.mul_pos (Nat.sub_pos_of_lt primeP.one_lt) (Nat.sub_pos_of_lt primeQ.one_lt)
  have prime : Nat.Prime 65537 := by norm_num
  exact ⟨q, mem, ne, rfl, rfl, mul_modularInverse positive (prime.coprime_iff_not_dvd.2 notDvd)⟩

/-! ## R194: UTF-8 -/

/-- R194: a continuation byte carries its six payload bits. -/
theorem utf8Tail_payload {t : Nat} (ht : t < 64) : utf8Tail (BitVec.ofNat 8 (0x80 + t)) = some t := by
  have value : (BitVec.ofNat 8 (0x80 + t)).toNat = 0x80 + t := by rw [BitVec.toNat_ofNat]; omega
  rw [utf8Tail, value, if_pos (by omega), Nat.add_sub_cancel_left]

/-- R194: a character is the scalar value of its code point. -/
theorem utf8Scalar_toNat {low : Nat} {c : Char} (hlow : low ≤ c.toNat) : utf8Scalar low c.toNat = some c := by
  have valid : c.toNat.isValidChar := c.valid
  have bounds : low ≤ c.toNat ∧ c.toNat ≤ 0x10FFFF ∧ ¬(0xD800 ≤ c.toNat ∧ c.toNat ≤ 0xDFFF) := by
    unfold Nat.isValidChar at valid
    omega
  rw [utf8Scalar, if_pos bounds, Char.ofNat_toNat]

section
variable {c : Char} {h t₁ t₂ t₃ : Nat}

/-- R194: decoding of the one-byte form. -/
theorem utf8Next_oneByte (small : c.toNat < 0x80) (rest : List Byte) :
    utf8Next (BitVec.ofNat 8 c.toNat :: rest) = some (c, rest) := by
  have value : (BitVec.ofNat 8 c.toNat).toNat = c.toNat := by rw [BitVec.toNat_ofNat]; omega
  simp only [utf8Next, value, if_pos small, utf8Scalar_toNat (Nat.zero_le _), Option.map_some]

/-- R194: decoding of the two-byte form. -/
theorem utf8Next_twoBytes (hh : h < 0x20) (h₁ : t₁ < 64) (value : h * 64 + t₁ = c.toNat) (low : 0x80 ≤ c.toNat)
    (rest : List Byte) :
    utf8Next (BitVec.ofNat 8 (0xC0 + h) :: BitVec.ofNat 8 (0x80 + t₁) :: rest) = some (c, rest) := by
  have lead : (BitVec.ofNat 8 (0xC0 + h)).toNat = 0xC0 + h := by rw [BitVec.toNat_ofNat]; omega
  have form : ¬0xC0 + h < 0x80 ∧ ¬0xC0 + h < 0xC0 ∧ 0xC0 + h < 0xE0 := by omega
  simp [utf8Next, lead, form, utf8Tail_payload, h₁, value, utf8Scalar_toNat low]

/-- R194: decoding of the three-byte form. -/
theorem utf8Next_threeBytes (hh : h < 0x10) (h₁ : t₁ < 64) (h₂ : t₂ < 64)
    (value : h * 4096 + t₁ * 64 + t₂ = c.toNat) (low : 0x800 ≤ c.toNat) (rest : List Byte) :
    utf8Next (BitVec.ofNat 8 (0xE0 + h) :: BitVec.ofNat 8 (0x80 + t₁) :: BitVec.ofNat 8 (0x80 + t₂) :: rest) =
      some (c, rest) := by
  have lead : (BitVec.ofNat 8 (0xE0 + h)).toNat = 0xE0 + h := by rw [BitVec.toNat_ofNat]; omega
  have form : ¬0xE0 + h < 0x80 ∧ ¬0xE0 + h < 0xC0 ∧ ¬0xE0 + h < 0xE0 ∧ 0xE0 + h < 0xF0 := by omega
  simp [utf8Next, lead, form, utf8Tail_payload, h₁, h₂, value, utf8Scalar_toNat low]

/-- R194: decoding of the four-byte form. -/
theorem utf8Next_fourBytes (hh : h < 0x08) (h₁ : t₁ < 64) (h₂ : t₂ < 64) (h₃ : t₃ < 64)
    (value : h * 262144 + t₁ * 4096 + t₂ * 64 + t₃ = c.toNat) (low : 0x10000 ≤ c.toNat) (rest : List Byte) :
    utf8Next (BitVec.ofNat 8 (0xF0 + h) :: BitVec.ofNat 8 (0x80 + t₁) :: BitVec.ofNat 8 (0x80 + t₂) ::
      BitVec.ofNat 8 (0x80 + t₃) :: rest) = some (c, rest) := by
  have lead : (BitVec.ofNat 8 (0xF0 + h)).toNat = 0xF0 + h := by rw [BitVec.toNat_ofNat]; omega
  have form : ¬0xF0 + h < 0x80 ∧ ¬0xF0 + h < 0xC0 ∧ ¬0xF0 + h < 0xE0 ∧ ¬0xF0 + h < 0xF0 ∧ 0xF0 + h < 0xF8 := by
    omega
  simp [utf8Next, lead, form, utf8Tail_payload, h₁, h₂, h₃, value, utf8Scalar_toNat low]

end

/-- R194: the first scalar value of a byte string that begins with an encoded character is that character. -/
theorem utf8Next_utf8Char (c : Char) (rest : List Byte) : utf8Next (utf8Char c ++ rest) = some (c, rest) := by
  have range : c.toNat < 0x110000 := by
    have valid : c.toNat.isValidChar := c.valid
    unfold Nat.isValidChar at valid
    omega
  have payload (k : Nat) : c.toNat / 2 ^ (6 * k) % 64 < 64 := Nat.mod_lt _ (by decide)
  unfold utf8Char
  dsimp only
  split_ifs with one two three
  · exact utf8Next_oneByte one rest
  · exact utf8Next_twoBytes (by omega) (payload 0) (by omega) (by omega) rest
  · exact utf8Next_threeBytes (by omega) (payload 1) (payload 0) (by omega) (by omega) rest
  · exact utf8Next_fourBytes (by omega) (payload 2) (payload 1) (payload 0) (by omega) (by omega) rest

/-- R194: every character has at least one byte. -/
theorem utf8Char_length_pos (c : Char) : 0 < (utf8Char c).length := by
  unfold utf8Char
  dsimp only
  split_ifs <;> exact Nat.succ_pos _

/-- R194: decoding continues behind an encoded character. -/
theorem utf8DecodeUpTo_utf8Char (fuel : Nat) (c : Char) (rest : List Byte) :
    utf8DecodeUpTo (fuel + 1) (utf8Char c ++ rest) = (utf8DecodeUpTo fuel rest).map (c :: ·) := by
  have nonempty : utf8Char c ++ rest ≠ [] :=
    List.append_ne_nil_of_left_ne_nil (List.length_pos_iff.1 (utf8Char_length_pos c)) rest
  rw [utf8DecodeUpTo, utf8Next_utf8Char]
  exact nonempty

/-- R194: decoding undoes encoding, with fuel for every byte. -/
theorem utf8DecodeUpTo_utf8Encode : ∀ (text : List Char) {fuel : Nat}, (utf8Encode text).length ≤ fuel →
    utf8DecodeUpTo fuel (utf8Encode text) = some text
  | [], _, _ => by simp [utf8Encode, utf8DecodeUpTo]
  | c :: text, fuel, enough => by
    have split : utf8Encode (c :: text) = utf8Char c ++ utf8Encode text := List.flatMap_cons
    rw [split, List.length_append] at enough
    have nonempty := utf8Char_length_pos c
    obtain ⟨fuel, rfl⟩ : ∃ k, fuel = k + 1 := ⟨fuel - 1, by omega⟩
    rw [split, utf8DecodeUpTo_utf8Char, utf8DecodeUpTo_utf8Encode text (by omega), Option.map_some]

/-- R194: the bytes of a text decode to the text. -/
theorem utf8Decode_utf8Encode (text : List Char) : utf8Decode (utf8Encode text) = .ok text := by
  rw [utf8Decode, utf8DecodeUpTo_utf8Encode text le_rfl]

/-! ## R192, R193: padding -/

/-- R192: the padding has at least one byte. -/
theorem paddingLen_pos {bs : Nat} (positive : 1 ≤ bs) (len : Nat) : 1 ≤ paddingLen bs len :=
  Nat.sub_pos_of_lt (Nat.mod_lt len positive)

/-- R192: the padding completes the last block. -/
theorem dvd_add_paddingLen {bs : Nat} (positive : 1 ≤ bs) (len : Nat) : bs ∣ len + paddingLen bs len := by
  have below := Nat.mod_lt len positive
  have parts := Nat.div_add_mod len bs
  refine ⟨len / bs + 1, ?_⟩
  rw [paddingLen, Nat.mul_add]
  omega

/-- R193: unpadding strips `p` bytes of value `p`. -/
theorem unpad_append_replicate (bytes : List Byte) {p : Nat} (positive : 1 ≤ p) (fits : p < 256) :
    unpad (bytes ++ List.replicate p (BitVec.ofNat 8 p)) = .ok bytes := by
  have last : (bytes ++ List.replicate p (BitVec.ofNat 8 p)).getLast? = some (BitVec.ofNat 8 p) := by
    rw [List.getLast?_append, List.getLast?_replicate, if_neg (by omega), Option.some_or]
  have value : (BitVec.ofNat 8 p).toNat = p := Nat.mod_eq_of_lt fits
  have checks : ¬bytes.length + p < p ∧ ¬p = 0 := by omega
  simp [unpad, last, value, checks]

/-- R192, R193: a byte string whose padding length fits in a byte is padded to whole blocks, and `unpad` undoes it. -/
theorem pad_of_fits {bs : Nat} (positive : 1 ≤ bs) (bytes : List Byte) (fits : paddingLen bs bytes.length < 256) :
    ∃ padded, pad bs bytes = .ok padded ∧ bs ∣ padded.length ∧ unpad padded = .ok bytes := by
  refine ⟨_, if_neg (Nat.not_le_of_lt fits), ?_, unpad_append_replicate bytes (paddingLen_pos positive _) fits⟩
  rw [List.length_append, List.length_replicate]
  exact dvd_add_paddingLen positive bytes.length

/-! ## R195, R197: a block and its bytes -/

/-- R195: one more byte behind a big-endian integer. -/
def pushByte (acc : Nat) (b : Byte) : Nat := acc * 256 + b.toNat

/-- R195: `blockOfBytes` pushes the bytes from the left. -/
theorem blockOfBytes_eq_foldl (bytes : List Byte) : blockOfBytes bytes = bytes.foldl pushByte 0 := rfl

/-- The byte pushed last is below the others. -/
theorem pushByte_div (acc : Nat) (b : Byte) : pushByte acc b / 256 = acc := by
  have := b.isLt
  unfold pushByte
  omega

/-- The bytes pushed onto `acc` are below it. -/
theorem foldl_pushByte_div : ∀ (bytes : List Byte) (acc : Nat), bytes.foldl pushByte acc / 256 ^ bytes.length = acc
  | [], acc => Nat.div_one acc
  | b :: bytes, acc => by
    rw [List.foldl_cons, List.length_cons, Nat.pow_succ, ← Nat.div_div_eq_div_mul, foldl_pushByte_div, pushByte_div]

/-- The low base-256 digits are the bytes pushed last. -/
theorem bigEndian_foldl_pushByte : ∀ (bytes : List Byte) (acc : Nat),
    bigEndian bytes.length (bytes.foldl pushByte acc) = bytes
  | [], _ => rfl
  | b :: bytes, acc => by
    have low : BitVec.ofNat 8 (pushByte acc b) = b := by
      apply BitVec.eq_of_toNat_eq
      have := b.isLt
      rw [BitVec.toNat_ofNat, pushByte]
      omega
    rw [List.length_cons, bigEndian, List.foldl_cons, foldl_pushByte_div, low, bigEndian_foldl_pushByte]

/-- R195: a block is below `256 ^ bs`. -/
theorem blockOfBytes_lt (bytes : List Byte) : blockOfBytes bytes < 256 ^ bytes.length :=
  Nat.lt_of_div_eq_zero (by positivity) (foldl_pushByte_div bytes 0)

/-- R197: a block gives back the bytes that it was made of. -/
theorem bytesOfBlock_blockOfBytes (bytes : List Byte) :
    bytesOfBlock bytes.length (blockOfBytes bytes) = .ok bytes := by
  rw [bytesOfBlock, if_neg (blockOfBytes_lt bytes).not_ge, blockOfBytes_eq_foldl, bigEndian_foldl_pushByte]

/-! ## R196, R197: the blocks of a byte string -/

/-- R196: a byte string of whole blocks splits into blocks that are in range and give the bytes back. -/
theorem bytesOfBlocks_chunks {bs : Nat} (positive : 1 ≤ bs) : ∀ (fuel : Nat) {bytes : List Byte},
    bs ∣ bytes.length → bytes.length ≤ fuel →
    (∀ v ∈ (chunks bs fuel bytes).map blockOfBytes, v < 256 ^ bs) ∧
      bytesOfBlocks bs ((chunks bs fuel bytes).map blockOfBytes) = .ok bytes
  | 0, bytes, _, enough => by
    obtain rfl := List.length_eq_zero_iff.1 (Nat.le_zero.1 enough)
    simp [chunks, bytesOfBlocks]
  | fuel + 1, bytes, whole, enough => by
    rw [chunks]
    split_ifs with empty
    · obtain rfl := List.isEmpty_iff.1 empty
      simp [bytesOfBlocks]
    · have room : bs ≤ bytes.length :=
        Nat.le_of_dvd (List.length_pos_iff.2 (mt List.isEmpty_iff.2 empty)) whole
      have length : (bytes.take bs).length = bs := List.length_take_of_le room
      have rest : bs ∣ (bytes.drop bs).length := List.length_drop ▸ Nat.dvd_sub whole dvd_rfl
      obtain ⟨below, back⟩ := bytesOfBlocks_chunks positive fuel rest (by rw [List.length_drop]; omega)
      have first := blockOfBytes_lt (bytes.take bs)
      have firstBack := bytesOfBlock_blockOfBytes (bytes.take bs)
      rw [length] at first firstBack
      rw [List.map_cons]
      exact ⟨List.forall_mem_cons.2 ⟨first, below⟩, by
        rw [bytesOfBlocks, firstBack, back]
        exact congrArg Except.ok (List.take_append_drop bs bytes)⟩

/-! ## R198: the codec -/

section
variable {text : List Char} {bs : Nat}

/-- R192: the text is refused when its padding length does not fit in a byte. -/
theorem textToBlocks_refused (above : 256 ≤ paddingLen bs (utf8Encode text).length) :
    textToBlocks text bs = .error .paddingCeiling := by
  rw [textToBlocks, pad, if_pos above]

/-- R198: the padded bytes are whole blocks, and each layer of the codec is undone by its inverse. -/
theorem blocksToText_textToBlocks (positive : 1 ≤ bs) (fits : paddingLen bs (utf8Encode text).length < 256) :
    ∃ blocks, textToBlocks text bs = .ok blocks ∧ (∀ v ∈ blocks, v < 256 ^ bs) ∧
      blocksToText blocks bs = .ok text := by
  obtain ⟨padded, padding, whole, stripped⟩ := pad_of_fits positive (utf8Encode text) fits
  obtain ⟨below, back⟩ := bytesOfBlocks_chunks positive padded.length whole le_rfl
  refine ⟨_, by rw [textToBlocks, padding], below, ?_⟩
  rw [blocksToText, back]
  dsimp only
  rw [stripped]
  exact utf8Decode_utf8Encode text

end

/-- Settles O59: the two cases of `paddingLen`. -/
theorem codecRoundTrip : Obligations.CodecRoundTrip :=
  fun _ _ positive => ⟨textToBlocks_refused, blocksToText_textToBlocks positive⟩

end Sys2Proof.Machine

namespace Sys2Proof.Machine

/-! ## R221 to R226: how a command ends -/

/-- How a command `i` ends on the state `s` (R222, R226): without an error, with an error of its checks at index 0, or
with BLOCKRANGE at an entry that it checks, has not written, and found not below KEY_N. -/
inductive EndsAs (i : Instr) (s : State) : CmdEnd → Prop
  | completed (t : State) : EndsAs i s (.completed t)
  | refused (code : ErrCode) (listed : code.code ∈ i.codes) (no_range : code ≠ .blockRange) (t : State) :
    EndsAs i s (.raised code 0 t)
  | blockRange {j : Nat} {t : State} (checked : i.checked j) (in_buf : j < s.cfg.nbuf)
    (unwritten : t.bufAt j = s.bufAt j) (above : s.keyN ≤ i.checkedInput t j) : EndsAs i s (.raised .blockRange j t)

/-- The run has left KEY_N and the entries from `j` on as they are in `s`. -/
structure State.UntouchedFrom (s : State) (j : Nat) (u : State) : Prop where
  keyN : u.keyN = s.keyN
  entry : ∀ m, j ≤ m → u.bufAt m = s.bufAt m

/-- Storing block `j` leaves the entries after it. -/
theorem State.UntouchedFrom.setBuf {s u : State} {j : Nat} (h : s.UntouchedFrom j u) (v : Nat) :
    s.UntouchedFrom (j + 1) (u.setBuf j v) :=
  ⟨h.keyN, fun m later => (u.setBuf_bufAt_ne j m v (by omega)).trans (h.entry m (by omega))⟩

/-- A block without a write leaves the entries after it. -/
theorem State.UntouchedFrom.next {s u : State} {j : Nat} (h : s.UntouchedFrom j u) : s.UntouchedFrom (j + 1) u :=
  ⟨h.keyN, fun m later => h.entry m (by omega)⟩

/-- What the body of a sequence command with a range check does (R132): it leaves the later blocks, and the one error
it raises is BLOCKRANGE at its own block, before any write, when `input` is not below KEY_N there. -/
structure RangeChecks (body : Nat → State → CmdEnd) (input : State → Nat → Nat) : Prop where
  untouched : ∀ (s : State) j u, s.UntouchedFrom j u → s.UntouchedFrom (j + 1) (body j u).state
  raised : ∀ j u code index t, body j u = .raised code index t →
    code = .blockRange ∧ index = j ∧ t = u ∧ u.keyN ≤ input u j

/-- R150: a block of ECB_ENC checks its plaintext. -/
theorem ecbEncBlock_rangeChecks : RangeChecks ecbEncBlock State.bufAt where
  untouched _ _ _ h := ecbEncBlock_keeps h.next h.setBuf
  raised j u code index t h := by
    unfold ecbEncBlock at h
    split at h
    next above => cases h; exact ⟨rfl, rfl, rfl, (outOfRange_iff _ _).1 above⟩
    next => cases h

/-- R171: a block of CBC_ENC checks its plaintext mixed with the chaining value. -/
theorem cbcEncBlock_rangeChecks : RangeChecks cbcEncBlock fun u j => u.bufAt j ^^^ u.chain where
  untouched _ _ _ h := cbcEncBlock_keeps h.next fun v _ => ⟨(h.setBuf v).keyN, (h.setBuf v).entry⟩
  raised j u code index t h := by
    simp only [cbcEncBlock] at h
    split at h
    next above => cases h; exact ⟨rfl, rfl, rfl, (outOfRange_iff _ _).1 above⟩
    next => cases h

/-- R226: a run that ends with an error stopped at the block whose range check failed, with that block unwritten. -/
theorem RangeChecks.forBlocks_raised {body : Nat → State → CmdEnd} {input : State → Nat → Nat}
    (checks : RangeChecks body input) {s : State} {code : ErrCode} {j : Nat} {t : State} :
    ∀ k i u, s.UntouchedFrom i u → forBlocks body k i u = .raised code j t →
      code = .blockRange ∧ i ≤ j ∧ j < i + k ∧ t.bufAt j = s.bufAt j ∧ s.keyN ≤ input t j
  | 0, _, _, _, h => by cases h
  | k + 1, i, u, before, h => by
    have after := checks.untouched s i u before
    simp only [forBlocks] at h
    cases block : body i u with
    | completed v =>
      rw [block] at h after
      obtain ⟨code_eq, lo, hi, rest⟩ := checks.forBlocks_raised k (i + 1) v after h
      exact ⟨code_eq, by omega, by omega, rest⟩
    | raised code' j' t' =>
      rw [block] at h
      cases h
      obtain ⟨code_eq, rfl, rfl, above⟩ := checks.raised i u code j t block
      exact ⟨code_eq, le_rfl, by omega, before.entry j le_rfl, before.keyN ▸ above⟩

/-- R225: a sequence command ends with an error of its checks, or as its run does. -/
theorem sequenceCommand_endsAs {i : Instr} {body : Nat → State → CmdEnd} {start count : Nat} {s : State}
    (listed : [2, 3, 4] ⊆ i.codes)
    (run : ∀ code j t, start + count ≤ s.cfg.nbuf → forBlocks body count start s = .raised code j t →
      EndsAs i s (.raised code j t)) :
    ∃ e : CmdEnd, sequenceCommand body start count s = .next e.finish ∧ EndsAs i s e := by
  rcases sequenceCommand_cases body start count s with ⟨-, h⟩ | ⟨-, -, h⟩ | ⟨-, -, -, h⟩ | ⟨fits, -, -, h⟩
  · exact ⟨.raised .index 0 s, h, .refused .index (listed (by decide)) nofun s⟩
  · exact ⟨.raised .blockSize 0 s, h, .refused .blockSize (listed (by decide)) nofun s⟩
  · exact ⟨.raised .modulus 0 s, h, .refused .modulus (listed (by decide)) nofun s⟩
  · refine ⟨_, h, ?_⟩
    cases ended : forBlocks body count start s with
    | completed t => exact .completed t
    | raised code j t => exact run code j t ((s.runOK_iff start count).1 fits) ended

/-- R150, R171: the run of a sequence command with a range check. -/
theorem RangeChecks.sequenceCommand_endsAs {i : Instr} {body : Nat → State → CmdEnd}
    (checks : RangeChecks body i.checkedInput) {start count : Nat} (s : State) (listed : [2, 3, 4] ⊆ i.codes)
    (checked : ∀ j, start ≤ j → j < start + count → i.checked j) :
    ∃ e : CmdEnd, sequenceCommand body start count s = .next e.finish ∧ EndsAs i s e := by
  refine Machine.sequenceCommand_endsAs listed fun code j t fits raised => ?_
  obtain ⟨rfl, lo, hi, unwritten, above⟩ :=
    checks.forBlocks_raised count start s ⟨rfl, fun _ _ => rfl⟩ raised
  exact .blockRange (checked j lo hi) (by omega) unwritten above

/-- R151, R172: the run of a sequence command without a range check, whose body raises nothing. -/
theorem sequenceCommand_endsAs_of_never_raised {i : Instr} {body : Nat → State → CmdEnd} {start count : Nat}
    (s : State) (listed : [2, 3, 4] ⊆ i.codes) (never : ∀ j u code index t, body j u ≠ .raised code index t) :
    ∃ e : CmdEnd, sequenceCommand body start count s = .next e.finish ∧ EndsAs i s e := by
  refine sequenceCommand_endsAs listed fun code j t _ raised => ?_
  obtain ⟨m, u, -, -, block⟩ := forBlocks_raised count start s raised
  exact absurd block (never m u code j t)

/-- R112: CHECK. -/
theorem execCheck_endsAs (s : State) : ∃ e : CmdEnd, execCheck s = .next e.finish ∧ EndsAs .check s e := by
  rw [execCheck_eq]
  split
  · exact ⟨.completed s, rfl, .completed s⟩
  · exact ⟨.raised .blockSize 0 s, rfl, .refused .blockSize (by decide) nofun s⟩

/-- R113: CHAIN_INIT. -/
theorem execChainInit_endsAs (s : State) :
    ∃ e : CmdEnd, execChainInit s = .next e.finish ∧ EndsAs .chainInit s e := by
  rw [execChainInit_eq]
  split
  · exact ⟨.completed _, rfl, .completed _⟩
  · exact ⟨.raised .blockSize 0 s, rfl, .refused .blockSize (by decide) nofun s⟩

/-- R133: MODEXP, which checks SRC with X = 0 alone. -/
theorem exec_modexp_endsAs (s : State) (x : ExpSel) (src dst : Nat) :
    ∃ e : CmdEnd, exec (.modexp x src dst) s = .next e.finish ∧ EndsAs (.modexp x src dst) s e := by
  have listed : [2, 4] ⊆ (Instr.modexp x src dst).codes := by cases x <;> simp [Instr.codes]
  rw [exec_modexp]
  split_ifs with index modulus range
  · exact ⟨.raised .index 0 s, rfl, .refused .index (listed (by decide)) nofun s⟩
  · exact ⟨.raised .modulus 0 s, rfl, .refused .modulus (listed (by decide)) nofun s⟩
  · obtain ⟨rfl, above⟩ := range
    exact ⟨.raised .blockRange src s, rfl, .blockRange rfl (by omega) rfl above⟩
  · exact ⟨.completed _, rfl, .completed _⟩

/-- R134: MONTMUL. -/
theorem exec_montmul_endsAs (s : State) (srcA srcB dst : Nat) :
    ∃ e : CmdEnd, exec (.montmul srcA srcB dst) s = .next e.finish ∧ EndsAs (.montmul srcA srcB dst) s e := by
  rw [exec_montmul]
  split_ifs with index modulus rangeA rangeB
  · exact ⟨.raised .index 0 s, rfl, .refused .index (by simp [Instr.codes, ErrCode.code]) nofun s⟩
  · exact ⟨.raised .modulus 0 s, rfl, .refused .modulus (by simp [Instr.codes, ErrCode.code]) nofun s⟩
  · exact ⟨.raised .blockRange srcA s, rfl, .blockRange (.inl rfl) (by omega) rfl rangeA⟩
  · exact ⟨.raised .blockRange srcB s, rfl, .blockRange (.inr rfl) (by omega) rfl rangeB⟩
  · exact ⟨.completed _, rfl, .completed _⟩

/-- Everything that `exec` can answer (R221). -/
theorem exec_endsAs (i : Instr) (s : State) : ∃ e : CmdEnd, exec i s = .next e.finish ∧ EndsAs i s e := by
  cases i with
  | nop => exact ⟨.completed s, rfl, .completed s⟩
  | check => exact execCheck_endsAs s
  | chainInit => exact execChainInit_endsAs s
  | ecbEnc start count =>
    exact ecbEncBlock_rangeChecks.sequenceCommand_endsAs s (by simp [Instr.codes]) fun _ lo hi => ⟨lo, hi⟩
  | ecbDec start count =>
    exact sequenceCommand_endsAs_of_never_raised s (by simp [Instr.codes]) fun _ _ _ _ _ h => by cases h
  | cbcEnc start count =>
    exact cbcEncBlock_rangeChecks.sequenceCommand_endsAs s (by simp [Instr.codes]) fun _ lo hi => ⟨lo, hi⟩
  | cbcDec start count =>
    exact sequenceCommand_endsAs_of_never_raised s (by simp [Instr.codes]) fun _ _ _ _ _ h => by cases h
  | modexp x src dst => exact exec_modexp_endsAs s x src dst
  | montmul srcA srcB dst => exact exec_montmul_endsAs s srcA srcB dst

/-- `exec_endsAs` for the state that a command answers. -/
theorem exec_next_endsAs {i : Instr} {s t : State} (answer : exec i s = .next t) :
    ∃ e : CmdEnd, t = e.finish ∧ EndsAs i s e := by
  obtain ⟨e, computed, ends⟩ := exec_endsAs i s
  cases answer.symm.trans computed
  exact ⟨e, rfl, ends⟩

/-- Settles O44: both ends of a command leave BUSY = 0 and DONE = 1. -/
theorem everyCommandEnds : Obligations.EveryCommandEnds := by
  intro i s
  obtain ⟨e, answer, -⟩ := exec_endsAs i s
  exact ⟨e.finish, answer, e.finish_pending⟩

/-- R222: success is in the table's row of every command. -/
theorem zero_mem_codes (i : Instr) : 0 ∈ i.codes := by
  cases i with
  | modexp x _ _ => cases x <;> simp [Instr.codes]
  | _ => simp [Instr.codes]

/-- R222: BLOCKRANGE is in the row of a command that checks an entry. -/
theorem blockRange_mem_codes {i : Instr} {j : Nat} (checked : i.checked j) : ErrCode.blockRange.code ∈ i.codes := by
  cases i with
  | ecbEnc _ _ | cbcEnc _ _ | montmul _ _ _ => simp [Instr.codes, ErrCode.code]
  | modexp x _ _ =>
    cases x with
    | keyE => simp [Instr.codes, ErrCode.code]
    | keyD => exact checked.elim
  | _ => exact checked.elim

/-- R222: the number of every error code is at most 5. -/
theorem ErrCode.code_le (code : ErrCode) : code.code.toNat ≤ 5 := by
  cases code <;> decide

/-- R222: BLOCKRANGE alone has the number 5. -/
theorem ErrCode.code_eq_five_iff (code : ErrCode) : code.code = 5 ↔ code = .blockRange := by
  cases code <;> decide

/-- Settles O48: each of the ends leaves 0 or a code of the command's row. -/
theorem errorCodesOfCommands : Obligations.ErrorCodesOfCommands := by
  intro i s t answer
  obtain ⟨e, rfl, ends⟩ := exec_next_endsAs answer
  cases ends with
  | completed t => exact ⟨zero_mem_codes i, Nat.zero_le 5⟩
  | refused code listed _ t => exact ⟨listed, code.code_le⟩
  | blockRange checked => exact ⟨blockRange_mem_codes checked, ErrCode.blockRange.code_le⟩

/-- The completion fields are no input of a range check. -/
theorem checkedInput_raiseError (i : Instr) (t : State) (code : ErrCode) (index j : Nat) :
    i.checkedInput (t.raiseError code index) j = i.checkedInput t j := by
  cases i <;> rfl

/-- Settles O49: INDEX is 0 at every end but BLOCKRANGE, whose index is that of the failed entry and fits in 8 bits. -/
theorem errinfoNamesFailedBlock : Obligations.ErrinfoNamesFailedBlock := by
  intro i s t ⟨⟨_, _, _, _, nbuf_le⟩, _⟩ answer
  have cmd : t.cmd = s.cmd := by rw [(commandFrame i s t answer).2]
  obtain ⟨e, rfl, ends⟩ := exec_next_endsAs answer
  refine ⟨cmd, ?_⟩
  cases ends with
  | completed t => exact ⟨fun _ => rfl, nofun⟩
  | refused code _ no_range t =>
    exact ⟨fun _ => rfl, fun five => absurd ((ErrCode.code_eq_five_iff code).1 five) no_range⟩
  | @blockRange j t checked in_buf unwritten above =>
    have index : (BitVec.ofNat 8 j).toNat = j := by
      rw [BitVec.toNat_ofNat]
      exact Nat.mod_eq_of_lt (by omega)
    rw [← checkedInput_raiseError i t .blockRange j j] at above
    exact ⟨fun other => absurd rfl other, fun _ => ⟨j, checked, in_buf, index, unwritten, above⟩⟩

end Sys2Proof.Machine

namespace Sys2Proof.Machine

/-! ## R220: acceptance of a CMD write -/

/-- Settles O7: the written word is CMD, which takes it while BUSY = 0 and drops it while BUSY = 1. -/
theorem cmdWriteAccepts : Obligations.CmdWriteAccepts := by
  intro s v rest moves
  have written := step_controlWrite .cmd nofun moves
  refine ⟨fun idle => ⟨none, ?_⟩, fun busy => ⟨none, ?_⟩⟩
  · rwa [State.writeWord_cmd_idle idle] at written
  · rwa [State.writeWord_dropped busy (.inr (.inl rfl))] at written

/-! ## R221, R235: the engine's turn -/

/-- R221: the engine's turn performs the command that the pending word decodes to. -/
theorem engineTurn_decoded {s : State} {v : Word} {i : Instr} (high : s.rstN = true) (pend : s.pending = some v)
    (decoded : decode v = .ok i) : engineTurn s = exec i s := by
  rw [engineTurn_busy s v high pend, runCommand, decoded]

/-- Settles O51: either step is the engine's turn, which performs the decoded command. -/
theorem stepRunsDecodedCommand : Obligations.StepRunsDecodedCommand := by
  intro s v i high pend decoded
  refine ⟨fun empty => ?_, fun rest script => ?_⟩
  · rw [step_nil s empty, engineTurn_decoded high pend decoded]
  · rw [step_cons s .engine rest script]
    exact engineTurn_decoded (s := { s with script := rest }) high pend decoded

/-- Settles O52: either step is the engine's turn, which has no step to take. -/
theorem idleBlockKeepsState : Obligations.IdleBlockKeepsState := by
  intro s idle
  refine ⟨fun empty => ?_, fun rest script => ?_⟩
  · rw [step_nil s empty, engineTurn_idle s (.inr idle)]
  · rw [step_cons s .engine rest script]
    exact engineTurn_idle { s with script := rest } (.inr idle)

/-! ## R221: after its events and one more step the block is idle -/

/-- R221: an accepted word ends, as a command or with ILLEGAL, and the agents' later events stay. -/
theorem runCommand_ends (v : Word) (s : State) :
    ∃ t, runCommand v s = .next t ∧ t.pending = none ∧ t.script = s.script := by
  unfold runCommand
  cases decode v with
  | ok i =>
    obtain ⟨t, answer, ended, -⟩ := everyCommandEnds i s
    exact ⟨t, answer, ended, by rw [(commandFrame i s t answer).2]⟩
  | error _ => exact ⟨_, rfl, rfl, rfl⟩

/-- R250, R251: a block of the form with a command pending is not in reset. -/
theorem State.Wf.high_of_pending {s : State} {v : Word} (wf : s.Wf) (pend : s.pending = some v) : s.rstN = true := by
  obtain ⟨-, -, -, -, reset⟩ := wf
  by_contra low
  simp [reset (Bool.eq_false_of_not_eq_true low)] at pend

/-- R221, R250: the engine's turn leaves no command pending: in reset there is none. -/
theorem engineTurn_ends {s : State} (wf : s.Wf) :
    ∃ t, engineTurn s = .next t ∧ t.pending = none ∧ t.script = s.script := by
  cases pend : s.pending with
  | none => exact ⟨s, engineTurn_idle s (.inr pend), pend, rfl⟩
  | some v =>
    rw [engineTurn_busy s v (wf.high_of_pending pend) pend]
    exact runCommand_ends v s

/-- A write leaves the agents' later events. -/
theorem State.writeWord_script (s : State) (t : Target) (v : Word) : (s.writeWord t v).script = s.script :=
  (congrArg State.script (s.writeWord_withScript s.script t v) :)

/-- R61: the host's step leaves the agents' later events. -/
theorem State.busEvent_script (s : State) (tx : Transaction) : (s.busEvent tx).script = s.script := by
  cases level : s.rstN with
  | false => rw [s.busEvent_low tx level]
  | true =>
    rw [s.busEvent_high tx level]
    rcases transact_cases s tx with ⟨-, e⟩ | ⟨t, -, -, e⟩ | ⟨t, -, -, e⟩ <;> rw [e]
    exact s.writeWord_script t tx.wdata

/-- R16: every event leaves the agents' later events. -/
theorem perform_script {s t : State} {e : Event} (wf : s.Wf) (answer : perform e s = .next t) :
    t.script = s.script := by
  cases e with
  | bus tx => cases answer; exact s.busEvent_script tx
  | engine =>
    obtain ⟨u, computed, -, script⟩ := engineTurn_ends wf
    cases computed.symm.trans answer
    exact script
  | resetLow => cases answer; rfl
  | resetHigh => cases answer; rfl

/-- R75: from a state of the block's form, a step on the first event answers one that has the other events left. -/
theorem step_takes_event {s : State} {e : Event} {rest : List Event} (wf : s.Wf) (script : s.script = e :: rest) :
    ∃ t, step s = .next t ∧ perform e { s with script := rest } = .next t ∧ t.Wf ∧ t.script = rest := by
  obtain ⟨t, moved, t_wf⟩ := step_wf wf
  have performed := (step_cons s e rest script).symm.trans moved
  exact ⟨t, moved, performed, t_wf, perform_script (s := { s with script := rest }) wf performed⟩

/-- One step and `k` more are `k + 1`. -/
theorem run_succ {M : Host.Core} {s t : M.State} (k : Nat) (moved : M.step s = .next t) :
    M.run (k + 1) s = M.run k t := by
  rw [Host.Core.run, moved]

/-- R221: the last of these steps is an engine's turn with no event left. -/
theorem run_ends : ∀ (es : List Event) {s : State}, s.Wf → s.script = es →
    ∃ t, Host.Core.run core (es.length + 1) s = .next t ∧ t.script = [] ∧ t.pending = none
  | [], s, wf, script => by
    obtain ⟨t, answer, ended, later⟩ := engineTurn_ends wf
    exact ⟨t, run_succ 0 ((step_nil s script).trans answer), later.trans script, ended⟩
  | _ :: rest, s, wf, script => by
    obtain ⟨t, moved, -, t_wf, later⟩ := step_takes_event wf script
    obtain ⟨u, reached, ends⟩ := run_ends rest t_wf later
    exact ⟨u, (run_succ _ moved).trans reached, ends⟩

/-! ## R78, R80: what the other agents leave of a pending command -/

/-- `u` is `s` but for what the host's transactions change while BUSY = 1: DONE, WERR, IRQ_EN, the events left and the
response. -/
def State.SameCommand (s u : State) : Prop :=
  u = { s with
    done := u.done, werr := u.werr, doneIE := u.doneIE, werrIE := u.werrIE, script := u.script, resp := u.resp }

/-- What two stretches of a run both leave, the whole run leaves. -/
theorem State.SameCommand.trans {s t u : State} (first : s.SameCommand t) (second : t.SameCommand u) :
    s.SameCommand u := by
  unfold State.SameCommand at *
  rw [first] at second
  exact second

/-- R80: while BUSY = 1 a write leaves the command and its operands. -/
theorem State.writeWord_sameCommand {s : State} (busy : s.busy = true) (t : Target) (v : Word) :
    s.SameCommand (s.writeWord t v) := by
  rcases writeWord_cases s t v with e | e | e | ⟨-, e⟩ | ⟨idle, -⟩ | ⟨idle, -⟩ | ⟨idle, -⟩
  iterate 4 rw [e]; rfl
  iterate 3 exact absurd busy (by simp [idle])

/-- R78, R80: while BUSY = 1 so does the host's step. -/
theorem State.busEvent_sameCommand {s : State} (busy : s.busy = true) (tx : Transaction) :
    s.SameCommand (s.busEvent tx) := by
  cases level : s.rstN with
  | false => rw [s.busEvent_low tx level]; rfl
  | true =>
    rw [s.busEvent_high tx level]
    refine State.SameCommand.trans (t := (s.transact tx).1) ?_ rfl
    rcases transact_cases s tx with ⟨-, e⟩ | ⟨t, -, -, e⟩ | ⟨t, -, -, e⟩ <;> rw [e]
    · rfl
    · rfl
    · exact State.writeWord_sameCommand busy t tx.wdata

/-- R250: rst_n that is high stays high. -/
theorem State.resetReleased_eq {s : State} (high : s.rstN = true) : s.resetReleased = s := by
  rw [State.resetReleased, ← high]

/-- R78: while BUSY = 1 and rst_n is high, no event but the reset and the engine's turn touches the command. -/
theorem perform_sameCommand {s t : State} {e : Event} (busy : s.busy = true) (high : s.rstN = true)
    (no_turn : e ≠ .engine) (no_reset : e ≠ .resetLow) (answer : perform e s = .next t) : s.SameCommand t := by
  cases e with
  | bus tx => cases answer; exact State.busEvent_sameCommand busy tx
  | engine => exact absurd rfl no_turn
  | resetLow => exact absurd rfl no_reset
  | resetHigh => cases answer; rw [State.resetReleased_eq high]; rfl

/-- The engine moves next: at its event, or because no agent has another (log 4). -/
def State.EngineNext (s : State) : Prop := s.script = [] ∨ ∃ rest, s.script = .engine :: rest

/-- R221: a step of the engine is its turn on the state without its event. -/
theorem State.EngineNext.step_eq {s : State} (next : s.EngineNext) :
    step s = engineTurn { s with script := s.script.tail } := by
  obtain empty | ⟨rest, script⟩ := next
  · rw [step_nil s empty, empty, List.tail_nil, ← empty]
  · rw [step_cons s .engine rest script, script, List.tail_cons, perform]

/-- R221: without a reset the engine's turn comes to a pending command, which the agents have left as it was. -/
theorem run_reaches_engine {v : Word} : ∀ (es : List Event) {s : State}, s.Wf → s.script = es → s.pending = some v →
    Event.resetLow ∉ es →
    ∃ k u, k ≤ es.length ∧ Host.Core.run core k s = .next u ∧ s.SameCommand u ∧ u.EngineNext
  | [], s, _, script, _, _ => ⟨0, s, le_rfl, rfl, rfl, .inl script⟩
  | e :: rest, s, wf, script, pend, no_reset => by
    by_cases turn : e = .engine
    · exact ⟨0, s, Nat.zero_le _, rfl, rfl, .inr ⟨rest, turn ▸ script⟩⟩
    obtain ⟨t, moved, performed, t_wf, later⟩ := step_takes_event wf script
    obtain ⟨now, after⟩ := not_or.1 (mt List.mem_cons.2 no_reset)
    have busy : ({ s with script := rest } : State).busy = true := by simp [State.busy, pend]
    have same : s.SameCommand t :=
      State.SameCommand.trans (t := { s with script := rest }) rfl
        (perform_sameCommand busy (wf.high_of_pending pend) turn (Ne.symm now) performed)
    have t_pend : t.pending = some v := by rw [same]; exact pend
    obtain ⟨k, u, le, reached, kept, next⟩ := run_reaches_engine rest t_wf later t_pend after
    exact ⟨k + 1, u, Nat.succ_le_succ le, (run_succ k moved).trans reached, same.trans kept, next⟩

/-- Settles O58: the events end with an engine's turn, and without a reset the first engine's turn finds the command as
it was accepted. -/
theorem pendingCommandCompletes : Obligations.PendingCommandCompletes := by
  intro s wf
  refine ⟨run_ends s.script wf rfl, fun v pend no_reset => ?_⟩
  obtain ⟨k, u, le, reached, same, next⟩ := run_reaches_engine s.script wf rfl pend no_reset
  have u_pend : u.pending = some v := by rw [same]; exact pend
  have high : u.rstN = true := by rw [same]; exact wf.high_of_pending pend
  refine ⟨k, u, le, reached, u_pend, ?_, fun i decoded => ?_, fun e rejected => ?_⟩
  · rw [same]
    exact ⟨rfl, rfl, rfl, rfl, rfl, rfl, rfl, rfl, rfl⟩
  · rw [next.step_eq]
    exact engineTurn_decoded (s := { u with script := u.script.tail }) high u_pend decoded
  · rw [next.step_eq]
    exact engineTurn_illegal (s := { u with script := u.script.tail }) high u_pend rejected

end Sys2Proof.Machine

namespace Sys2Proof.Machine

/-! ## R250: the block while rst_n is low -/

/-- Settles O54: while rst_n is low the host's step drops its transaction and the engine has no step, and the release
moves rst_n alone. -/
theorem resetHoldsBlock : Obligations.ResetHoldsBlock := by
  intro s rest low
  refine ⟨fun tx script => ?bus, fun script => ?engine, fun empty => ?no_event, fun script => ?release⟩
  case bus =>
    rw [step_cons s (.bus tx) rest script, perform, State.busEvent_low { s with script := rest } tx low]
  case engine =>
    rw [step_cons s .engine rest script]
    exact engineTurn_idle { s with script := rest } (.inl low)
  case no_event => rw [step_nil s empty, engineTurn_idle s (.inl low)]
  case release => exact step_cons s .resetHigh rest script

end Sys2Proof.Machine
